-- ==== Sys2Proof/Word.lean ====
section
/-! DEFINITION. The word types of the part: bytes, 16-bit window words and the 32-bit tick (spec 0.5). -/

namespace Sys2Proof

/-- A byte is 8 bits (0.5, Numbers and units). -/
abbrev Byte := BitVec 8

/-- A word is 16 bits: one word of the register window (0.5). -/
abbrev Word := BitVec 16

/-- The value of the Tick Timer (R120). -/
abbrev Tick := BitVec 32

end Sys2Proof
end

