-- ==== Sys2Proof/Config.lean ====
section
/-! DEFINITION. What the part fixes: identification words, the power-on segment configuration, the loader's own
values; and the one free value, where no rule states a value (log entries 18 and 26). -/

namespace Sys2Proof.Config

/-- ID reads 2340H (Table 12-1). -/
def id : Word := 0x2340

/-- REV reads 0001H (Table 12-1). -/
def rev : Word := 0x0001

/-- Power-on bus-free timeout, ms (Table 6-1); the loader's too (R182). -/
def busFreeTimeout : Byte := 35

/-- Power-on stretch timeout, ms (Table 6-1); the loader's too (R182). -/
def stretchTimeout : Byte := 25

/-- Power-on retry gap, ms (Table 6-1); the loader's too (R182). -/
def retryGap : BitVec 4 := 2

/-- Power-on poll share (Table 6-1). -/
def pollShare : BitVec 4 := 4

/-- Power-on alert holdoff, ms (Table 6-1). -/
def alertHoldoff : Byte := 50

/-- The serial memory stands at 50H plus the value of CFGADR1..CFGADR0 (R181). -/
def memoryBase : BitVec 7 := 0x50

/-- A loader read makes up to 3 attempts: 1 and 2 retries (R182). -/
def loaderRetries : BitVec 3 := 2

/-- A Command Queue holds at most 16 descriptors (R30). -/
def queueSlots : Nat := 16

/-- The Completion Ring holds at most 32 entries (R30). -/
def ringSlots : Nat := 32

/-- The value of a good read of an entry whose value width is neither 1 nor 2, which no rule states: free, by the grant of
the read and the bytes received (DESIGN CHOICE, log entry 26). -/
opaque valueOfNoWidth : Nat → List Byte → Word

end Sys2Proof.Config
end

