-- ==== Sys2Proof/Syntax.lean ====
section
/-! DEFINITION. The commands of the block: one constructor of Instr for each row of spec/opcode_table.json. -/

namespace Sys2Proof

/-- A segment of the part, A or B (0.6). -/
inductive Seg where
  | a
  | b
deriving DecidableEq, Repr

/-- What an engine sees on SCLx and SDAx between two rows of the table, in so far as it moves its record. The table has no
row for these: State.wires gives them by the millisecond, and ABORT carries those it must come after (5.2, 7.2; log entry
13). -/
inductive Wire where
  /-- the bus-free check finds the bus free (R77) -/
  | busFree
  /-- a start or repeated start has been made (R78, R82) -/
  | started
  /-- the eighth bit of a byte has been sent, or received where no page stores the byte (R79, R80) -/
  | eighth
  /-- the engine has released SCLx and does not see it high: a hold begins (R81, R128) -/
  | held
  /-- SCLx is seen high: the hold ends (R81, R128) -/
  | clockHigh
  /-- a recovery samples SDAx, true for high, and goes on (R125, R126, R127) -/
  | sampled (high : Bool)
deriving DecidableEq, Repr

/-- The commands and happenings of the part. The docstring of each constructor says what its operands are. -/
inductive Instr where
  /-- CMD write, code 01H; `arg` is ignored (R27). -/
  | submit (arg : Byte)
  /-- CMD write, code 02H; `arg` is ignored (R53). -/
  | pop (arg : Byte)
  /-- CMD write, code 03H (R39); `seen` is what the engines saw on their wires, in order, before it and after the last row
  that says so (log entry 13). -/
  | abort (arg : Byte) (seen : List (Seg × Wire))
  /-- CMD write, code 04H (R111). -/
  | pause (arg : Byte)
  /-- CMD write, code 05H (R112). -/
  | resume (arg : Byte)
  /-- CMD write, code 06H (R109). -/
  | segEnable (arg : Byte)
  /-- CMD write, code 07H (R110). -/
  | segDisable (arg : Byte)
  /-- CMD write, code 08H (R105). -/
  | segWrite (arg : Byte)
  /-- CMD write, code 09H (R106). -/
  | segRead (arg : Byte)
  /-- CMD write, code 0AH (R131). -/
  | recover (arg : Byte)
  /-- CMD write, code 10H (R15). -/
  | tgtWrite (arg : Byte)
  /-- CMD write, code 11H (R16). -/
  | tgtRead (arg : Byte)
  /-- CMD write, code 12H (R17). -/
  | tgtClear (arg : Byte)
  /-- CMD write, code 13H (R18). -/
  | tgtRelease (arg : Byte)
  /-- CMD write, code 14H (R18). -/
  | ackAlert (arg : Byte)
  /-- CMD write, code 20H (R140). -/
  | pollWrite (arg : Byte)
  /-- CMD write, code 21H (R144). -/
  | pollRead (arg : Byte)
  /-- CMD write, code 22H (R141). -/
  | pollEnable (arg : Byte)
  /-- CMD write, code 23H (R142). -/
  | pollDisable (arg : Byte)
  /-- CMD write, code 30H; `arg` is ignored (R190). -/
  | softReset (arg : Byte)
  /-- CMD write, code 31H; `arg` is ignored (R189). -/
  | reload (arg : Byte)
  /-- CMD write of a whole word whose code names no command (R193). -/
  | badCommand (word : Word)
  /-- Host write to PAGEPTR (R67). -/
  | pagePtrWrite (word : Word)
  /-- Host read of PAGEDATA (R68). -/
  | pageDataRead
  /-- Host write to PAGEDATA (R69). -/
  | pageDataWrite (word : Word)
  /-- Host read of TICK_LO (R121). -/
  | tickLoRead
  /-- Host read of EVENT (R171). -/
  | eventRead
  /-- Host write to EVENT (R172). -/
  | eventWrite (word : Word)
  /-- Host write to EVMASK (R175). -/
  | evMaskWrite (word : Word)
  /-- Host write to EVCTRL (R176). -/
  | evCtrlWrite (word : Word)
  /-- Host write to ALARM_LO (`hi` false) or ALARM_HI (`hi` true) (R157). -/
  | alarmFlagsWrite (hi : Bool) (word : Word)
  /-- Host write to a window address whose register has no write behaviour of its own (R194, R192). -/
  | registerWrite (addr : BitVec 6) (word : Word)
  /-- Release of RSTn, or power-up, with the levels of the strap pins (R198, R181). -/
  | powerOnReset (cfgen : Bool) (cfgadr fsel : BitVec 2)
  /-- The ALERT line of segment `x` changes to low or to high (R160). -/
  | alertLineChange (x : Seg) (low : Bool)
  /-- One advance of the Tick Timer (R120). -/
  | tickAdvance
  /-- The deadline of the descriptor at position `pos` of queue `x`, head first, runs out (R37). -/
  | deadlineExpiry (x : Seg) (pos : Fin 16)
  /-- Poll entry `i` reaches its next-due tick (R145). -/
  | pollDue (i : Fin 24)
  /-- Poll entry `i` has been due for a whole period (R147). -/
  | pollOverrun (i : Fin 24)
  /-- Poll entry `i` is due on a QUARANTINED target at an advance (R149). -/
  | quarantineMiss (i : Fin 24)
  /-- The holdoff of resolver `x` runs out (R165). -/
  | holdoffEnd (x : Seg)
  /-- The arbiter of segment `x` decides (R115). -/
  | grantDecision (x : Seg)
  /-- The bus-free check on segment `x` runs out (R77). -/
  | busFreeTimeout (x : Seg)
  /-- A clock hold on segment `x` runs past the stretch timeout (R81). -/
  | stretchTimeout (x : Seg)
  /-- SDAx is sampled low where engine `x` released it and expects it high (R84). -/
  | dataMismatch (x : Seg)
  /-- The ninth pulse of a byte ends on segment `x`: `ack` is the target's acknowledge of a byte sent,
  `byte` the byte received where the engine receives (R79, R80). -/
  | byteEnd (x : Seg) (ack : Bool) (byte : Byte)
  /-- The Target Table takes the oldest waiting presence report of segment `x` (R5). -/
  | presenceReport (x : Seg)
  /-- A data byte of a descriptor has been received in full on segment `x` (R66). -/
  | pageStore (x : Seg) (byte : Byte)
  /-- The stop after a first-address NACK with retries left completes (R90). -/
  | retryGapBegin (x : Seg)
  /-- The retry gap on segment `x` runs out (R90). -/
  | retryGapEnd (x : Seg)
  /-- The closing stop of the transaction on segment `x` completes (R96). -/
  | transactionEnd (x : Seg)
  /-- Command Queue `x` takes the engine's report (R33). -/
  | headFinished (x : Seg)
  /-- The Target Table takes the oldest waiting outcome report of segment `x` (R6). -/
  | outcomeReport (x : Seg)
  /-- The Poll Unit takes the oldest waiting poll report of segment `x` (R150). -/
  | pollReadReport (x : Seg)
  /-- Resolver `x` takes an alert read's result (R163). -/
  | alertResult (x : Seg)
  /-- Command Queue `x` retires its head (R42). -/
  | retirement (x : Seg)
  /-- The recovery of segment `x` succeeds: `samples` of SDAx, true for high, are those since the last taken, the last of
  them high in its stop (R127, R129). -/
  | recoverySucceeded (x : Seg) (samples : List Bool)
  /-- The recovery of segment `x` fails: `samples` of SDAx, true for high, are those since the last taken, the last of
  them low at pulse count 9, in a pulse or in its stop (R126, R127, R129). -/
  | recoveryFailed (x : Seg) (samples : List Bool)
  /-- A recovery clock hold on segment `x` runs past the stretch timeout (R128). -/
  | recoveryHoldTimeout (x : Seg)
  /-- The Configuration Loader takes a read's report (R182). -/
  | loaderReadReport
  /-- RSTn is driven low, or the supply is lost (R198). -/
  | rstnLow
deriving DecidableEq, Repr

end Sys2Proof
end

