-- ==== Sys2Proof/Machine/State.lean ====
section
/-! DEFINITION. The state of the part, block by block (Table 1-1), as plain data, and its value after power-on reset. -/

namespace Sys2Proof.Machine

/-! ### Target Table (chapter 1) -/

/-- Speed class of a target (Table 5-2). -/
inductive Speed where
  | standard
  | fast
deriving DecidableEq, Repr

/-- The five states of a target entry (R4). -/
inductive TgtState where
  | vacant
  | unknown
  | present
  | missing
  | quarantined
deriving DecidableEq, Repr

/-- Configured fields of a target entry (Table 1-5). -/
structure TargetConfig where
  segment : Seg
  address : BitVec 7
  /-- index width in bytes, 0, 1 or 2; 3 is illegal -/
  width : BitVec 2
  speed : Speed
  retryLimit : BitVec 3
  threshold : BitVec 4
  alertCapable : Bool
  alertIndex : Word
  alertMask : Byte
deriving DecidableEq, Repr

/-- A target entry: Table 1-5 and Table 1-6. -/
structure Target where
  cfg : TargetConfig
  state : TgtState
  /-- failure count, 0..15 -/
  failures : Nat
  /-- reference count, 0..40 -/
  refs : Nat
  alerting : Bool
  alertValue : Byte
  alertValid : Bool
  /-- last-seen stamp -/
  lastSeen : Word
deriving DecidableEq, Repr

/-- A VACANT entry: every field 0 (R21). -/
def Target.empty : Target :=
  { cfg := { segment := .a, address := 0, width := 0, speed := .standard, retryLimit := 0, threshold := 0,
             alertCapable := false, alertIndex := 0, alertMask := 0 }
    state := .vacant, failures := 0, refs := 0, alerting := false, alertValue := 0, alertValid := false
    lastSeen := 0 }

/-! ### Descriptors and completion entries (chapters 2 and 3) -/

/-- Descriptor kind (Table 2-1). -/
inductive Kind where
  | probe
  | write
  | read
  | writeRead
  | blockRead
deriving DecidableEq, Repr

/-- The ten outcomes of Table 3-2. -/
inductive TxOutcome where
  | ok
  | nackAddress
  | nackData
  | stretchTimeout
  | busFault
  | blockLengthBad
  | aborted
  | cancelled
  | expired
  | targetQuarantined
deriving DecidableEq, Repr

/-- State of a held descriptor (Table 2-4). A FINISHED descriptor holds what R33 or R35 stores. -/
inductive DescState where
  | queued
  | active
  | finished (outcome : TxOutcome) (attempts writeCount readCount : Nat)
  | cancelled
  | expired
deriving DecidableEq, Repr

/-- A descriptor held in a Command Queue (Table 2-1), with what its slot records (R29). -/
structure Descriptor where
  tag : Byte
  target : Fin 32
  kind : Kind
  indexPresent : Bool
  index : Word
  writeLen : Nat
  readLen : Nat
  /-- the page lent to it; absent for PROBE -/
  page : Option (Fin 32)
  deadline : Word
  notify : Bool
  state : DescState
  acceptTick : Tick
  /-- the queue's mark that the head is to be cut (R40) -/
  cut : Bool
  /-- the slot of the queue it stands in, 0..15 -/
  slot : Nat
deriving DecidableEq, Repr

/-- A completion entry (Table 3-1). -/
structure Completion where
  tag : Byte
  target : Fin 32
  kind : Kind
  outcome : TxOutcome
  attempts : Nat
  writeCount : Nat
  readCount : Nat
  page : Option (Fin 32)
  notify : Bool
  stamp : Word
deriving DecidableEq, Repr

/-! ### Page Buffer (chapter 4) -/

/-- The bytes of the Page Buffer: address page × 64 + offset, in rising order, none equal to 00H, which is what
an unlisted address reads as (R73). -/
abbrev Memory := List Host.Cell

/-- The descriptor a page is lent to, by its segment and its slot (R63). -/
structure Holder where
  seg : Seg
  slot : Nat
deriving DecidableEq, Repr

/-! ### Segment Engine (chapters 5 to 7) -/

/-- The block that supplied a work item (Table 5-1). A poll read carries its entry and the identity of its
grant (R143). -/
inductive Supplier where
  | queue
  | poll (entry : Fin 24) (grant : Nat)
  | alert
  | loader
deriving DecidableEq, Repr

/-- Form of a work item with its form fields (Table 5-1); the loader's form is its piece offset (R182). -/
inductive Form where
  | descriptor (kind : Kind) (indexPresent : Bool) (index : Word) (writeLen readLen : Nat) (page : Option (Fin 32))
  | pollRead (register : Word) (valueWidth : BitVec 2)
  | alertRead (register : Word)
  | loaderRead (offset : Word)
deriving DecidableEq, Repr

/-- What a stop under way closes: an attempt followed by a retry (R90), or the transaction with its outcome. -/
inductive Closing where
  | retry
  | ended (outcome : TxOutcome)
deriving DecidableEq, Repr

/-- The phase an engine is in (Table 5-1, 5.2 and 5.3); `Point` says how far the wires have come in it. -/
inductive Phase where
  /-- bus-free check, start and first address byte of an attempt -/
  | opening
  /-- sending index byte `k`, counted from 0 -/
  | index (k : Nat)
  /-- sending the data byte numbered by the write count -/
  | dataOut
  /-- repeated start and second address byte -/
  | restart
  /-- receiving the length byte of a BLOCK_READ -/
  | lengthByte
  /-- receiving a data byte of `total` -/
  | dataIn (total : Nat)
  /-- making a stop -/
  | stop (closing : Closing)
  /-- waiting out the retry gap -/
  | gap
deriving DecidableEq, Repr

/-- How far the wires have come in a phase (5.2). -/
inductive Point where
  /-- the bus-free check, and a retry gap: both lines released (R77, R90) -/
  | free
  /-- a start, a repeated start or a stop (R78, R82, R83) -/
  | condition
  /-- the eight bits of a byte (R79, R80) -/
  | bits
  /-- the ninth bit: the byte has been sent, or received in full (R79, R80) -/
  | ninth
deriving DecidableEq, Repr

/-- The point at which a phase begins. -/
def Phase.start : Phase → Point
  | .opening => .free
  | .index _ => .bits
  | .dataOut => .bits
  | .restart => .condition
  | .lengthByte => .bits
  | .dataIn _ => .bits
  | .stop _ => .condition
  | .gap => .free

/-- The work-item record (Table 5-1). -/
structure Item where
  supplier : Supplier
  /-- target index; none for the loader, which names no entry -/
  target : Option (Fin 32)
  address : BitVec 7
  speed : Speed
  width : BitVec 2
  retryLimit : BitVec 3
  form : Form
  attempts : Nat
  writeCount : Nat
  readCount : Nat
  phase : Phase
  cut : Bool
  /-- the cut came while the ninth bit of a received byte was being given (Table 5-7) -/
  cutLate : Bool
  detached : Bool
  /-- bytes received by a poll, alert or loader read, in order (R88) -/
  bytes : List Byte
  /-- the repeated start of this attempt has been reached -/
  second : Bool
  /-- how far the wires have come in the phase -/
  point : Point
  /-- tick at which the present phase began: the bus-free check (R77) or the gap (R90) is timed from it -/
  since : Tick
  /-- the hold under way: the tick at which the engine released SCLx and did not see it high (R81) -/
  hold : Option Tick
deriving DecidableEq, Repr

/-- A recovery hold under way: the tick at which the engine released SCLx, and the stretch timeout read then (R128). -/
structure RecoveryHold where
  since : Tick
  limit : Byte
deriving DecidableEq, Repr

/-- Stage of a recovery (R125 to R127). -/
inductive RecStage where
  /-- before the opening sample (R125) -/
  | opening
  /-- giving a pulse (R126) -/
  | pulse
  /-- making the recovery stop (R127) -/
  | stop
deriving DecidableEq, Repr

/-- The recovery record (R125). -/
structure Recovery where
  /-- pulse count, 0..9 -/
  pulses : Nat
  stage : RecStage
  hold : Option RecoveryHold
deriving DecidableEq, Repr

/-- Segment states (Table 6-2), PAUSING with the work beneath the pause (R108). -/
inductive SegState where
  | disabled
  | ready
  | busy
  | pausingTxn
  | pausingRec
  | paused
  | recovery
  | halted
deriving DecidableEq, Repr

/-- Segment configuration (Table 6-1). -/
structure SegConfig where
  busFree : Byte
  stretch : Byte
  retryGap : BitVec 4
  pollShare : BitVec 4
  alertEnable : Bool
  holdoff : Byte
deriving DecidableEq, Repr

/-- The power-on segment configuration (Table 6-1). -/
def SegConfig.powerOn : SegConfig :=
  { busFree := Config.busFreeTimeout, stretch := Config.stretchTimeout, retryGap := Config.retryGap
    pollShare := Config.pollShare, alertEnable := false, holdoff := Config.alertHoldoff }

/-! ### Reports waiting to be taken (R96) -/

/-- The engine's report to the Command Queue (R33). -/
structure HeadReport where
  outcome : TxOutcome
  attempts : Nat
  writeCount : Nat
  readCount : Nat
deriving DecidableEq, Repr

/-- What a report to the Target Table says. -/
inductive ReportBody where
  /-- an address byte was acknowledged (R5) -/
  | presence
  /-- final outcome of a descriptor or poll read (R6) -/
  | outcome (outcome : TxOutcome)
  /-- final outcome of an alert read, the byte read, and whether the resolver still waits for the result
  (R11, R167) -/
  | alertOutcome (outcome : TxOutcome) (value : Byte) (awaited : Bool)
deriving DecidableEq, Repr

/-- A report to the Target Table, not yet taken. `dropped` is set by a TGT_WRITE or TGT_CLEAR taken first
(R20), but never on a descriptor's report, which always reaches its entry (R33; log entry 5). -/
structure TableReport where
  target : Fin 32
  /-- sent for a descriptor -/
  ofDescriptor : Bool
  dropped : Bool
  body : ReportBody
deriving DecidableEq, Repr

/-- The engine's report to the Poll Unit (R96), with the grant it belongs to (R143). -/
structure PollReport where
  entry : Fin 24
  grant : Nat
  outcome : TxOutcome
  bytes : List Byte
deriving DecidableEq, Repr

/-- The result of an alert read (R163). -/
inductive AlertResult where
  | newFlag
  | masked
  | nothing
deriving DecidableEq, Repr

/-- The engine's report to the Configuration Loader; `second` says a NACK_ADDRESS came after the repeated
start (R183). -/
structure LoaderReport where
  outcome : TxOutcome
  second : Bool
  bytes : List Byte
deriving DecidableEq, Repr

/-! ### Alert Resolver (chapter 9) -/

/-- Resolver states (R159). -/
inductive ResState where
  | idle
  | pending
  | sweeping
  | holdoff
deriving DecidableEq, Repr

/-- The state of an Alert Resolver (R159). -/
structure Resolver where
  state : ResState
  /-- lowest index the sweep has not passed, 0..32 -/
  cursor : Nat
  /-- masked found -/
  found : Bool
  outstanding : Bool
  holdStart : Tick
  holdLen : Byte
deriving DecidableEq, Repr

/-- A resolver that is not watching, or after a reset (R168). -/
def Resolver.atRest : Resolver :=
  { state := .idle, cursor := 0, found := false, outstanding := false, holdStart := 0, holdLen := 0 }

/-- One segment: its Command Queue, Arbiter, Engine, Alert Resolver, ALERT pin, and the reports its engine has
handed out that are not yet taken. -/
structure Segment where
  state : SegState
  cfg : SegConfig
  /-- streak counter, 0..8 (R116) -/
  streak : Nat
  /-- held descriptors, head first (2.3) -/
  queue : List Descriptor
  item : Option Item
  recovery : Option Recovery
  resolver : Resolver
  /-- level of the ALERT pin: true for low -/
  alertLow : Bool
  headReport : Option HeadReport
  tableReports : List TableReport
  pollReports : List PollReport
  alertResults : List AlertResult
deriving DecidableEq, Repr

/-- A segment after power-on reset (R119), its ALERT pin at `low`. -/
def Segment.powerOn (low : Bool) : Segment :=
  { state := .disabled, cfg := .powerOn, streak := 0, queue := [], item := none, recovery := none
    resolver := .atRest, alertLow := low, headReport := none, tableReports := [], pollReports := []
    alertResults := [] }

/-! ### Poll Unit (chapter 8) -/

/-- Byte order of a two-byte value (Table 8-1). -/
inductive ByteOrder where
  | firstHigh
  | firstLow
deriving DecidableEq, Repr

/-- Compare modes (Table 8-1). -/
inductive CompareMode where
  | none
  | above
  | below
  | outside
  | change
deriving DecidableEq, Repr

/-- Configured fields of a poll entry (Table 8-1). -/
structure PollConfig where
  target : Fin 32
  register : Word
  /-- value width in bytes, 1 or 2 -/
  width : BitVec 2
  order : ByteOrder
  /-- signedness: true for SIGNED -/
  signed : Bool
  period : Word
  phase : Word
  mode : CompareMode
  high : Word
  low : Word
  hysteresis : Byte
  staleLimit : BitVec 4
  notify : Bool
deriving DecidableEq, Repr

/-- Alarm states (Table 8-2). -/
inductive AlarmState where
  | normal
  | high
  | low
  | stale
deriving DecidableEq, Repr

/-- The read mark (R143). -/
inductive ReadMark where
  | none
  | current
  | orphaned
deriving DecidableEq, Repr

/-- What the last advance of the tick found for a poll entry, not yet taken (R147, R149). -/
inductive Owed where
  | nothing
  | overrun
  | miss
deriving DecidableEq, Repr

/-- A poll entry: Table 8-1 and Table 8-2. -/
structure Poll where
  cfg : PollConfig
  enabled : Bool
  nextDue : Tick
  lastValue : Word
  valid : Bool
  alarm : AlarmState
  /-- miss count, 0..15 -/
  misses : Nat
  /-- overrun count, 0..255 -/
  overruns : Nat
  flag : Bool
  mark : ReadMark
  /-- identity of the latest grant (R143) -/
  latestGrant : Nat
  owed : Owed
deriving DecidableEq, Repr

/-- A poll entry with every field 0 (R158). -/
def Poll.empty : Poll :=
  { cfg := { target := 0, register := 0, width := 0, order := .firstHigh, signed := false, period := 0, phase := 0
             mode := .none, high := 0, low := 0, hysteresis := 0, staleLimit := 0, notify := false }
    enabled := false, nextDue := 0, lastValue := 0, valid := false, alarm := .normal, misses := 0, overruns := 0
    flag := false, mark := .none, latestGrant := 0, owed := .nothing }

/-! ### Configuration Loader (chapter 11) -/

/-- Clear modes of the Event Unit (10.2). -/
inductive ClearMode where
  | writeOne
  | readClears
deriving DecidableEq, Repr

/-- Load states (R180). -/
inductive LoadState where
  | loading
  | done
  | failed
  | skipped
deriving DecidableEq, Repr

/-- Reasons of a failed load (R180). -/
inductive LoadReason where
  | none
  | memoryAbsent
  | bus
  | badType
  | badLength
  | badField
  | duplicate
  | undefinedTarget
  | overlong
  | checksum
deriving DecidableEq, Repr

/-- The event settings of an EVENTS record (Table 11-1). -/
structure EventSettings where
  mask : Word
  mode : ClearMode
  watermark : BitVec 6
deriving DecidableEq, Repr

/-- The shadow tables (11.3): each shadow entry is unwritten (none) or written by one record. The Bool of a
segment is its enable at commit, that of a poll entry its enabled mark. -/
structure Shadow where
  segA : Option (SegConfig × Bool)
  segB : Option (SegConfig × Bool)
  targets : Vector (Option TargetConfig) 32
  polls : Vector (Option (PollConfig × Bool)) 24
  events : Option EventSettings
deriving DecidableEq, Repr

/-- Empty shadow tables: as when a load begins (11.3), after a failure (R187), and while none runs (log entry 27). -/
def Shadow.empty : Shadow :=
  { segA := none, segB := none, targets := Vector.replicate 32 none, polls := Vector.replicate 24 none
    events := none }

/-- The Configuration Loader: its load status (R180), the list bytes taken so far, its shadow tables and the
report of its read that is not yet taken. -/
structure Loader where
  state : LoadState
  reason : LoadReason
  /-- record offset, 0..4095 -/
  offset : Nat
  /-- good records, 0..255 -/
  good : Nat
  bytes : List Byte
  shadow : Shadow
  report : Option LoaderReport
deriving DecidableEq, Repr

/-- A loader that is SKIPPED (R181); its shadow tables are empty by log entry 27. -/
def Loader.skipped : Loader :=
  { state := .skipped, reason := .none, offset := 0, good := 0, bytes := [], shadow := .empty, report := none }

/-! ### The whole part -/

/-- The state of the part (Table 1-1), with the queue of commands that wait. -/
structure State where
  /-- level of RSTn: true while it is low (R198) -/
  rstnLow : Bool
  /-- strap pins as sampled at the last power-on reset (R181, R120) -/
  cfgen : Bool
  cfgadr : BitVec 2
  fsel : BitVec 2
  /-- CMD, last word written (R193) -/
  cmd : Word
  /-- CMDRES (R193) -/
  cmdres : Word
  /-- staging registers (R194) -/
  ds : Vector Word 5
  ts : Vector Word 6
  ps : Vector Word 8
  ss : Vector Word 3
  /-- page pointer (R67) -/
  ptrPage : BitVec 5
  ptrOffset : BitVec 6
  /-- capture register of TICK_HI (R121) -/
  capture : Word
  /-- the word driven on D15..D0 by the last PAGEDATA, TICK_LO or EVENT read -/
  lastRead : Word
  targets : Vector Target 32
  /-- page bytes (R63) -/
  mem : Memory
  /-- holder record of each page: none for HOST (R63) -/
  holders : Vector (Option Holder) 32
  segA : Segment
  segB : Segment
  /-- completion entries, oldest first (R48) -/
  ring : List Completion
  polls : Vector Poll 24
  /-- number of poll grants made since power-on reset: gives each grant its identity (R143) -/
  grants : Nat
  /-- latched flags, at the positions of Table 12-11 (R169) -/
  latched : Word
  /-- EVMASK (R175) -/
  mask : Word
  clearMode : ClearMode
  /-- completion watermark, 1..32 (R176) -/
  watermark : BitVec 6
  tick : Tick
  loader : Loader
  /-- the commands that wait, first in, first out -/
  pending : List Instr
  /-- what the engines will see on their wires beyond what the rows say: one list for each millisecond to come, the next
  one first; the model's own input (log entry 13) -/
  wires : List (List (Seg × Wire))
deriving DecidableEq, Repr

/-- Faults of the part: it has none. Every address of the Page Buffer exists (R67), and every happening the
spec describes has an effect. No constructor: no command can answer with a fault. -/
inductive Fault where
deriving DecidableEq, Repr

/-- Why a command has no meaning. -/
inductive Refusal where
  /-- Raised by the dispatcher for a row that is not modelled yet. Safe: the model stops. No arm raises it. -/
  | notModelled (mnemonic : String)
  /-- Raised for a term that is no command of its row (Instr.wf): a REGISTER_WRITE to an address whose write
  is a row of its own, or a BAD_COMMAND whose code names a command. Safe: the same access is modelled under
  its own row. -/
  | illFormed
deriving DecidableEq, Repr

/-- What a command answers. -/
abbrev Result := Host.Outcome State Fault Refusal

/-- The part after power-on reset with every strap low and both ALERT lines high (R198, R181; log entry 1). -/
def State.reset : State :=
  { rstnLow := false, cfgen := false, cfgadr := 0, fsel := 0, cmd := 0, cmdres := 0
    ds := Vector.replicate 5 0, ts := Vector.replicate 6 0, ps := Vector.replicate 8 0, ss := Vector.replicate 3 0
    ptrPage := 0, ptrOffset := 0, capture := 0, lastRead := 0
    targets := Vector.replicate 32 Target.empty
    mem := [], holders := Vector.replicate 32 none
    segA := Segment.powerOn false, segB := Segment.powerOn false
    ring := [], polls := Vector.replicate 24 Poll.empty, grants := 0
    latched := 0, mask := 0, clearMode := .writeOne, watermark := 1
    tick := 0, loader := Loader.skipped, pending := [], wires := [] }

end Sys2Proof.Machine
end

