-- ==== Sys2Proof/Machine/Flags.lean ====
section
/-! DEFINITION. The Event Unit's causes: latched flags, level conditions, the EVENT word and INTn (chapter 10). -/

namespace Sys2Proof.Machine

/-- The segment of that name. -/
def State.seg (s : State) : Seg → Segment
  | .a => s.segA
  | .b => s.segB

/-- The latched causes (Table 10-1). -/
inductive Latched where
  | refused
  | conflict
  | quarantine
  | overrun
  | alert
  | loaded
  | loadFail
  | unresolved
  | faultA
  | faultB
deriving DecidableEq, Repr

/-- Position of a latched cause in EVENT and EVMASK, as a word with that bit set (Table 12-11). -/
def causeBit : Latched → Word
  | .refused => 0x0001
  | .conflict => 0x0004
  | .quarantine => 0x0010
  | .overrun => 0x0020
  | .alert => 0x0040
  | .loaded => 0x0080
  | .loadFail => 0x0100
  | .unresolved => 0x0200
  | .faultA => 0x0400
  | .faultB => 0x0800

/-- The positions of all latched causes (Table 12-11). -/
def latchedBits : Word := 0x0FF5

/-- The positions that name a cause: EVMASK holds these and no other (R175). -/
def causeBits : Word := 0x3FFF

/-- Set a latched flag; a flag already set stays set (R169). -/
def State.raise (s : State) (c : Latched) : State := { s with latched := s.latched ||| causeBit c }

/-- The FAULT_x cause of a segment (R136). -/
def faultCause : Seg → Latched
  | .a => .faultA
  | .b => .faultB

/-- The notify count: held completion entries with notify yes (R48). -/
def notifyCount (ring : List Completion) : Nat := ring.countP (·.notify)

/-- The COMPLETE condition (R59). -/
def completeCondition (s : State) : Bool :=
  decide (s.watermark.toNat ≤ s.ring.length) || decide (0 < notifyCount s.ring)

/-- The ALARM condition: any alarm flag set (R156). -/
def alarmCondition (s : State) : Bool := s.polls.toList.any (·.flag)

/-- HALT_x is pending exactly while the segment is HALTED (R136). -/
def haltCondition (s : State) (x : Seg) : Bool := decide ((s.seg x).state = .halted)

/-- One bit of a word, where a condition holds. -/
def bitIf (c : Bool) (w : Word) : Word := if c then w else 0

/-- The level causes pending, at their positions (R170, Table 12-11). -/
def levelWord (s : State) : Word :=
  bitIf (completeCondition s) 0x0002 ||| bitIf (alarmCondition s) 0x0008 |||
    bitIf (haltCondition s .a) 0x1000 ||| bitIf (haltCondition s .b) 0x2000

/-- The word a read of EVENT returns: the pending state of all fourteen causes (R171). -/
def eventWord (s : State) : Word := (s.latched &&& latchedBits) ||| levelWord s

/-- The interrupt request: some cause both pending and unmasked (R177). -/
def interruptAsserted (s : State) : Bool := decide (eventWord s &&& s.mask ≠ 0)

/-- Level of INTn, true for high: driven high while RSTn is low, otherwise low while the request is asserted
(R177, R198). -/
def intnHigh (s : State) : Bool := s.rstnLow || !interruptAsserted s

end Sys2Proof.Machine
end

