-- ==== Sys2Proof/Machine/Ops.lean ====
section
/-! DEFINITION. The named operations the meanings share: tables, page bytes, segments, the command port, the
engine's end of a transaction, and the resolver's sweep tests. -/

namespace Sys2Proof.Machine

/-! ### Tables of a fixed size -/

/-- Replace the entry at an index. -/
def vset {α : Type} {n : Nat} (v : Vector α n) (i : Fin n) (a : α) : Vector α n := v.set i.val a i.isLt

/-- Apply a function to every entry. -/
def vmap {α β : Type} {n : Nat} (f : α → β) (v : Vector α n) : Vector β n :=
  ⟨⟨v.toList.map f⟩, by simp⟩

/-- The table whose entry at `i` is `f i`. -/
def vfill {α : Type} {n : Nat} (f : Fin n → α) : Vector α n := ⟨⟨List.ofFn f⟩, by simp⟩

/-- The `n` bits `f 0` (least significant) to `f (n-1)` as a word. -/
def bitsOf (f : Nat → Bool) : (n : Nat) → BitVec n
  | 0 => 0#0
  | n + 1 => BitVec.cons (f n) (bitsOf f n)

/-- A number as an entry index of 0..31. -/
def idx32 (n : Nat) : Fin 32 := Fin.ofNat 32 n

/-- A number as a poll entry index of 0..23. -/
def idx24 (n : Nat) : Fin 24 := Fin.ofNat 24 n

/-! ### Bytes, words and time -/

/-- The word of a high and a low byte. -/
def wordOf (hi lo : Byte) : Word := hi ++ lo

/-- High byte of a word. -/
def hiByte (w : Word) : Byte := w.extractLsb' 8 8

/-- Low byte of a word. -/
def loByte (w : Word) : Byte := w.setWidth 8

/-- Time from a reference tick to the present tick, modulo 2³² (R120). -/
def elapsed (start now : Tick) : Nat := (now - start).toNat

/-- A stamp: the low 16 bits of the tick (R5, R50). -/
def stampOf (t : Tick) : Word := t.setWidth 16

/-! ### Page bytes (chapter 4) -/

/-- What a byte of the buffer reads as; an unlisted one reads 00H (R73). -/
def Memory.read : Memory → Nat → Byte
  | [], _ => 0
  | (k, v) :: rest, a => if k = a then v else Memory.read rest a

/-- Store a byte, keeping addresses rising and no listed byte 00H. -/
def Memory.write : Memory → Nat → Byte → Memory
  | [], a, b => if b = 0 then [] else [(a, b)]
  | (k, v) :: rest, a, b =>
    if a < k then (if b = 0 then (k, v) :: rest else (a, b) :: (k, v) :: rest)
    else if a = k then (if b = 0 then rest else (a, b) :: rest)
    else (k, v) :: Memory.write rest a b

/-- The canonical form: addresses strictly rising and inside the 2048 bytes, no listed byte 00H. -/
def Memory.wf (m : Memory) : Bool :=
  decide (m.Pairwise (fun c d => c.1 < d.1)) && m.all (fun c => decide (c.1 < 2048) && decide (c.2 ≠ 0))

/-- Buffer address of an offset of a page: 32 pages of 64 bytes (chapter 4). -/
def pageAddr (page : Fin 32) (offset : Nat) : Nat := page.val * 64 + offset % 64

/-! ### Access to the tables and segments -/

/-- Target entry `i`. -/
def State.target (s : State) (i : Fin 32) : Target := s.targets.get i

/-- Store target entry `i`. -/
def State.setTarget (s : State) (i : Fin 32) (t : Target) : State := { s with targets := vset s.targets i t }

/-- Poll entry `i`. -/
def State.poll (s : State) (i : Fin 24) : Poll := s.polls.get i

/-- Store poll entry `i`. -/
def State.setPoll (s : State) (i : Fin 24) (p : Poll) : State := { s with polls := vset s.polls i p }

/-- Store a segment. -/
def State.setSeg (s : State) (x : Seg) (g : Segment) : State :=
  match x with
  | .a => { s with segA := g }
  | .b => { s with segB := g }

/-- Change a segment. -/
def State.updSeg (s : State) (x : Seg) (f : Segment → Segment) : State := s.setSeg x (f (s.seg x))

/-- Argument 0 names segment A and argument 1 names segment B (Table 12-2). -/
def segOf (arg : Byte) : Seg := if arg = 0 then .a else .b

/-- Whether the Configuration Loader is LOADING. -/
def State.isLoading (s : State) : Bool := decide (s.loader.state = .loading)

/-! ### The command port (R193) -/

/-- Result codes (Table 12-3). -/
inductive ResultCode where
  | done
  | loading
  | badCommand
  | badEntry
  | badTarget
  | badKind
  | badLength
  | badIndex
  | pageNotHeld
  | queueFull
  | segmentDisabled
  | quarantined
  | entryInUse
  | duplicateAddress
  | badField
  | segmentBusy
  | notPaused
  | ringEmpty
  | segmentHalted
  | notHalted
deriving DecidableEq, Repr

/-- The code of a result (Table 12-3). -/
def ResultCode.code : ResultCode → Byte
  | .done => 0x00
  | .loading => 0x01
  | .badCommand => 0x02
  | .badEntry => 0x03
  | .badTarget => 0x04
  | .badKind => 0x05
  | .badLength => 0x06
  | .badIndex => 0x07
  | .pageNotHeld => 0x08
  | .queueFull => 0x09
  | .segmentDisabled => 0x0A
  | .quarantined => 0x0B
  | .entryInUse => 0x0C
  | .duplicateAddress => 0x0D
  | .badField => 0x0E
  | .segmentBusy => 0x0F
  | .notPaused => 0x10
  | .ringEmpty => 0x11
  | .segmentHalted => 0x12
  | .notHalted => 0x13

/-- A list of checks in order, each with the code it reports when it fails: the first that fails. -/
def firstFailing (checks : List (Bool × ResultCode)) : Option ResultCode :=
  (checks.find? (·.1)).map (·.2)

/-- The result of a command stands in CMDRES with the command's code (R193). -/
def State.answer (s : State) (code : Byte) (r : ResultCode) : State :=
  { s with cmdres := wordOf code r.code }

/-- A refusal: its code in CMDRES and REFUSED set (R193). -/
def State.refuse (s : State) (code : Byte) (r : ResultCode) : State :=
  (s.answer code r).raise .refused

/-- A CMD write taken while RSTn is high: CMD keeps the word; LOADING is checked first, then the argument's
range (`limit` values; 256 where it is ignored), then the owning block's checks; the effect is whole or
nothing (R193). While RSTn is low nothing is taken (log entry 3). -/
def command (code arg : Byte) (limit : Nat) (checks : State → List (Bool × ResultCode))
    (effect : State → State) (s : State) : State :=
  if s.rstnLow then s
  else
    let s0 := { s with cmd := wordOf code arg }
    match firstFailing ((s.isLoading, .loading) :: (decide (limit ≤ arg.toNat), .badEntry) :: checks s) with
    | some r => s0.refuse code r
    | none => (effect s0).answer code .done

/-- A happening the owning block takes where it finds its condition; otherwise nothing changes (R1; log entry
2). While RSTn is low nothing is taken (log entry 3). -/
def happen (s : State) (taken : Option State) : State :=
  if s.rstnLow then s else taken.getD s

/-! ### Alert sweeps (chapter 9) -/

/-- Whether the resolver watches its line (R159). -/
def Segment.watching (g : Segment) : Bool := g.cfg.alertEnable && decide (g.state ≠ .disabled)

/-- Whether a target entry qualifies for a sweep of a segment (R161). -/
def qualifies (t : Target) (x : Seg) : Bool :=
  decide (t.state ≠ .vacant) && decide (t.cfg.segment = x) && t.cfg.alertCapable &&
    decide (t.state ≠ .quarantined)

/-- The lowest qualifying index at or above a cursor (R161). -/
def nextQualifying (s : State) (x : Seg) (cursor : Nat) : Option (Fin 32) :=
  (List.finRange 32).find? (fun i => decide (cursor ≤ i.val) && qualifies (s.target i) x)

/-- Whether the resolver has a sweep asked for or under way. -/
def Resolver.inSweep (r : Resolver) : Bool := decide (r.state = .pending) || decide (r.state = .sweeping)

/-- HOLDOFF from the present tick, with the segment's alert holdoff as it stands (R164). -/
def Resolver.toHoldoff (r : Resolver) (now : Tick) (length : Byte) : Resolver :=
  { r with state := .holdoff, cursor := 0, found := false, holdStart := now, holdLen := length }

/-- PENDING, with the cursor at 0 and the sweep record clear (R160). -/
def Resolver.toPending (r : Resolver) : Resolver := { r with state := .pending, cursor := 0, found := false }

/-- The end of a sweep, where its three conditions hold: UNRESOLVED for a sweep that found nothing on a low
line, then HOLDOFF (R164). -/
def endSweep (x : Seg) (s : State) : State :=
  let g := s.seg x
  let r : Resolver := g.resolver
  if r.inSweep && !r.outstanding && (nextQualifying s x r.cursor).isNone then
    let s1 := if !r.found && g.alertLow then s.raise .unresolved else s
    s1.updSeg x fun h => { h with resolver := r.toHoldoff s.tick h.cfg.holdoff }
  else s

/-- The end tests of both resolvers, after a happening that may have taken their last qualifying entries
(R164). -/
def endSweeps (s : State) : State := endSweep .b (endSweep .a s)

/-- Becoming PENDING: a sweep from index 0, which ends at once where no target qualifies (R160). -/
def beginSweep (x : Seg) (s : State) : State :=
  endSweep x (s.updSeg x fun g => { g with resolver := g.resolver.toPending })

/-- A watching IDLE resolver looks at its line (R160). -/
def lookAtLine (x : Seg) (s : State) : State :=
  let g := s.seg x
  if g.watching && decide (g.resolver.state = .idle) && g.alertLow then beginSweep x s else s

/-- A report of an alert read whose resolver no longer waits for its result (R167). -/
def TableReport.unawaited (r : TableReport) : TableReport :=
  match r.body with
  | .alertOutcome o v _ => { r with body := .alertOutcome o v false }
  | _ => r

/-- The resolver stops watching: IDLE, and the result of an outstanding read will be discarded (R167). -/
def Segment.stopWatching (g : Segment) : Segment :=
  { g with resolver := .atRest, alertResults := [], tableReports := g.tableReports.map TableReport.unawaited }

/-! ### Polls (chapter 8) -/

/-- The segment of a poll entry: that of its target entry. -/
def pollSeg (s : State) (p : Poll) : Seg := (s.target p.cfg.target).cfg.segment

/-- An entry is scheduled while enabled and its segment is not DISABLED (R145). -/
def scheduled (s : State) (p : Poll) : Bool :=
  p.enabled && decide ((s.seg (pollSeg s p)).state ≠ .disabled)

/-- Whether the next-due tick has been reached (R145). -/
def reached (s : State) (p : Poll) : Bool := decide (elapsed p.nextDue s.tick < 65536)

/-- Whether the target entry of a poll entry is QUARANTINED. -/
def pollQuarantined (s : State) (p : Poll) : Bool := decide ((s.target p.cfg.target).state = .quarantined)

/-- Whether an entry is due, so a candidate for its arbiter (R145). A grant moves the next-due tick on (R146), so that a
reached one has not been granted; only with period 0, of an entry never written, does it stay, and the rules do not say
whether the entry is then due: that it is, and may be granted again at once, is the model's choice (log entry 26). -/
def due (s : State) (p : Poll) : Bool := scheduled s p && reached s p && !pollQuarantined s p

/-- The phase or period of a poll entry as a span of the tick. -/
def span (w : Word) : Tick := w.setWidth 32

/-- Next-due tick from the present tick and the phase (R141, R109). -/
def Poll.reschedule (p : Poll) (now : Tick) : Poll := { p with nextDue := now + span p.cfg.phase, owed := .nothing }

/-- Number of enabled poll entries that name target entry `i` (R9). -/
def pollRefs (polls : Vector Poll 24) (i : Fin 32) : Nat :=
  polls.toList.countP (fun p => p.enabled && decide (p.cfg.target = i))

/-- Number of held descriptors of a queue that name target entry `i` (R9). -/
def queueRefs (q : List Descriptor) (i : Fin 32) : Nat := q.countP (fun d => decide (d.target = i))

/-! ### Engine: plan of a transaction (5.3) -/

/-- What a transaction reads: nothing, a fixed number of bytes, or a block of at most a length. -/
inductive ReadPlan where
  | nothing
  | fixed (n : Nat)
  | block (max : Nat)
deriving DecidableEq, Repr

/-- The index bytes sent, the number of data bytes sent, and what is read. -/
structure Plan where
  index : List Byte
  out : Nat
  read : ReadPlan
deriving DecidableEq, Repr

/-- Index bytes of a latched width, high byte first (R86). -/
def indexBytes (width : BitVec 2) (index : Word) : List Byte :=
  if width = 1 then [loByte index] else if width = 2 then [hiByte index, loByte index] else []

/-- Write length that a kind sends (Table 5-4). -/
def Kind.sends : Kind → Nat → Nat
  | .write, n => n
  | .writeRead, n => n
  | _, _ => 0

/-- What a kind reads (Table 5-4). -/
def Kind.reads : Kind → Nat → ReadPlan
  | .read, n => .fixed n
  | .writeRead, n => .fixed n
  | .blockRead, n => .block n
  | _, _ => .nothing

/-- Phase sequence of a work item (Tables 5-4, R88, R182). -/
def Item.plan (it : Item) : Plan :=
  match it.form with
  | .descriptor kind present index wl rl _ =>
    { index := if present then indexBytes it.width index else [], out := kind.sends wl, read := kind.reads rl }
  | .pollRead register width => { index := indexBytes it.width register, out := 0, read := .fixed width.toNat }
  | .alertRead register => { index := indexBytes it.width register, out := 0, read := .fixed 1 }
  | .loaderRead offset => { index := indexBytes it.width offset, out := 0, read := .fixed 16 }

/-- Whether the first address byte goes in write direction (Table 5-4). -/
def Plan.writesFirst (p : Plan) : Bool :=
  decide (p.index ≠ []) || decide (p.out ≠ 0) || decide (p.read = .nothing)

/-- Phase after an address byte in read direction, or after all that is written where nothing is read. -/
def Plan.beginRead (p : Plan) : Phase :=
  match p.read with
  | .nothing => .stop (.ended .ok)
  | .fixed n => .dataIn n
  | .block _ => .lengthByte

/-- Phase after the last data byte sent. -/
def Plan.afterOut (p : Plan) : Phase := if p.read = .nothing then .stop (.ended .ok) else .restart

/-- Phase after the last index byte. -/
def Plan.afterIndex (p : Plan) : Phase := if p.out ≠ 0 then .dataOut else p.afterOut

/-- Phase after the first address byte of an attempt. -/
def Plan.afterAddress (p : Plan) : Phase :=
  if p.index ≠ [] then .index 0 else if p.out ≠ 0 then .dataOut else p.beginRead

/-- The address byte: seven address bits and the direction bit, 1 for read (R79). -/
def addressByte (address : BitVec 7) (read : Bool) : Byte := address ++ BitVec.ofBool read

/-- The page of a descriptor's form (R66). -/
def Form.page : Form → Option (Fin 32)
  | .descriptor _ _ _ _ _ page => page
  | _ => none

/-- The byte an engine sends in its present phase, where it sends one (R79, R86, R66). -/
def byteSent (m : Memory) (it : Item) : Option Byte :=
  match it.phase with
  | .opening => some (addressByte it.address (!it.plan.writesFirst))
  | .restart => some (addressByte it.address true)
  | .index k => it.plan.index[k]?
  | .dataOut => it.form.page.map fun p => m.read (pageAddr p it.writeCount)
  | _ => none

/-- Data bytes received so far in this attempt. -/
def Item.received (it : Item) : Nat :=
  match it.form with
  | .descriptor .. => it.readCount
  | _ => it.bytes.length

/-- A cut taken before this point of the phase is carried out: a closing stop in place of the next phase
(Table 5-7). -/
def Item.orCut (it : Item) (next : Phase) : Phase := if it.cut then .stop (.ended .aborted) else next

/-- The length byte is accepted when it is at least 1 and at most the read length (R87). -/
def lengthAccepted (p : Plan) (l : Byte) : Bool :=
  match p.read with
  | .block max => decide (1 ≤ l.toNat) && decide (l.toNat ≤ max)
  | _ => false

/-- What the end of a byte's ninth pulse leads to: the item in its next phase and whether a presence report is sent;
none in a phase of no byte (R79, R80, R85 to R92, Table 5-7). R88 gives no number of bytes for a poll read of value width 0,
of an entry never written: that it ends OK after one byte is the model's choice (log entry 26). -/
def Item.byteEnd (it : Item) (ack : Bool) (byte : Byte) : Option (Item × Bool) :=
  let p := it.plan
  match it.phase with
  | .opening =>
    if ack then some ({ it with phase := it.orCut p.afterAddress }, true)
    else if it.cut then some ({ it with phase := .stop (.ended .aborted) }, false)
    else if it.attempts < 1 + it.retryLimit.toNat then some ({ it with phase := .stop .retry }, false)
    else some ({ it with phase := .stop (.ended .nackAddress) }, false)
  | .index k =>
    if ack then
      some ({ it with phase := it.orCut (if k + 1 < p.index.length then .index (k + 1) else p.afterIndex) }, false)
    else some ({ it with phase := it.orCut (.stop (.ended .nackData)) }, false)
  | .dataOut =>
    if ack then
      some ({ it with writeCount := it.writeCount + 1
                      phase := it.orCut (if it.writeCount + 1 < p.out then .dataOut else p.afterOut) }, false)
    else some ({ it with phase := it.orCut (.stop (.ended .nackData)) }, false)
  | .restart =>
    if ack then some ({ it with phase := it.orCut p.beginRead }, true)
    else some ({ it with phase := it.orCut (.stop (.ended .nackAddress)) }, false)
  | .lengthByte =>
    if it.cut && !it.cutLate then some ({ it with phase := .stop (.ended .aborted) }, false)
    else if lengthAccepted p byte then some ({ it with phase := .dataIn byte.toNat, cutLate := false }, false)
    else some ({ it with phase := .stop (.ended .blockLengthBad) }, false)
  | .dataIn total =>
    match it.form with
    | .descriptor .. =>
      if it.cut && !it.cutLate then some ({ it with phase := .stop (.ended .aborted) }, false)
      else if it.readCount < total then some ({ it with phase := .dataIn total, cutLate := false }, false)
      else some ({ it with phase := .stop (.ended .ok) }, false)
    | _ =>
      let bytes := it.bytes ++ [byte]
      if bytes.length < total then some ({ it with bytes := bytes, phase := .dataIn total }, false)
      else some ({ it with bytes := bytes, phase := .stop (.ended .ok) }, false)
  | .stop _ => none
  | .gap => none

/-- The ninth bit the engine itself gives the byte it has received: true for ACK, false for NACK; none where it gives
none (R80, R87, R88, Table 5-7). The one byte of a poll read of value width 0 gets NACK, by log entry 26. -/
def Item.answer (it : Item) (byte : Byte) : Option Bool :=
  let goesOn := !it.cut || it.cutLate
  match it.point, it.phase with
  | .ninth, .lengthByte => some (lengthAccepted it.plan byte && goesOn)
  | .ninth, .dataIn total =>
    match it.form with
    | .descriptor .. => some (decide (it.readCount < total) && goesOn)
    | _ => some (decide (it.bytes.length + 1 < total))
  | _, _ => none

/-- Whether the engine, where it stands, releases SDAx and expects it high: a repeated start or a stop, a bit sent as 1,
or its own NACK. A start makes no such sample (R78, R84). Which bit of a byte sent is at fault, and which length byte was
refused, are the wires' (log entry 15). -/
def mismatchPossible (m : Memory) (it : Item) : Bool :=
  match it.point with
  | .free => false
  | .condition => decide (it.phase ≠ .opening)
  | .bits =>
    match byteSent m it with
    | some b => decide (b ≠ 0)
    | none => false
  | .ninth => decide (it.answer 0 = some false)

/-- Whether a byte is sent or received in a phase. -/
def Phase.hasByte : Phase → Bool
  | .stop _ => false
  | .gap => false
  | _ => true

/-- Whether the engine is off the wires, both lines released: in a retry gap, or in the bus-free check of an attempt (R77,
R90). -/
def Item.offWires (it : Item) : Bool :=
  decide (it.phase = .gap) || (decide (it.phase = .opening) && decide (it.point = .free))

/-- Whether the engine releases SCLx for a high part where it stands: in every bit of a byte, in a repeated start and in
a stop; so a hold may come there (R81). -/
def Item.clocked (it : Item) : Bool :=
  match it.point with
  | .free => false
  | .condition => decide (it.phase ≠ .opening)
  | .bits => true
  | .ninth => true

/-- The record as its phase begins: the point the phase begins at, the tick, no hold, and whether the repeated start of
the attempt has been reached. -/
def Item.settle (it : Item) (now : Tick) : Item :=
  { it with second := it.second || decide (it.phase = .restart), point := it.phase.start, since := now, hold := none }

/-! ### Engine: end of a transaction (R96, R122) -/

/-- The outcomes that are faults of the wires (R84). -/
def TxOutcome.isFault : TxOutcome → Bool
  | .stretchTimeout => true
  | .busFault => true
  | _ => false

/-- Segment state at the end of a transaction (R96, Table 6-3). -/
def SegState.afterTransaction (st : SegState) (fault : Bool) : SegState :=
  match st with
  | .busy => if fault then .recovery else .ready
  | .pausingTxn => if fault then .pausingRec else .paused
  | st => st

/-- A report of an item to the Target Table, at the end of those already waiting. -/
def Segment.report (g : Segment) (it : Item) (body : ReportBody) : Segment :=
  match it.target with
  | some i =>
    let sent : TableReport := { target := i, ofDescriptor := decide (it.supplier = .queue), dropped := false, body := body }
    { g with tableReports := g.tableReports ++ [sent] }
  | none => g

/-- The reports of Table 5-6 that go to the blocks of a segment, and the engine without its record. A detached
poll read reports to no block; a detached alert read tells its resolver that it found nothing (R100). -/
def Segment.handOut (g : Segment) (it : Item) (o : TxOutcome) : Segment :=
  let g := { g with item := none }
  match it.supplier with
  | .queue =>
    let told : HeadReport := { outcome := o, attempts := it.attempts, writeCount := it.writeCount, readCount := it.readCount }
    Segment.report { g with headReport := some told } it (.outcome o)
  | .poll entry grant =>
    if it.detached then g
    else
      let told : PollReport := { entry := entry, grant := grant, outcome := o, bytes := it.bytes }
      Segment.report { g with pollReports := g.pollReports ++ [told] } it (.outcome o)
  | .alert =>
    if it.detached then { g with alertResults := g.alertResults ++ [.nothing] }
    else g.report it (.alertOutcome o (it.bytes.headD 0) true)
  | .loader => g

/-- The end of a transaction without its recovery: reports handed out, record discarded, the segment out of
BUSY. A loader read reports to the loader and leaves the segment as it stands (R96, R124). -/
def closeItem (s : State) (x : Seg) (it : Item) (o : TxOutcome) : State :=
  match it.supplier with
  | .loader =>
    let s := s.updSeg x (fun g => g.handOut it o)
    { s with loader := { s.loader with report := some { outcome := o, second := it.second, bytes := it.bytes } } }
  | _ =>
    s.updSeg x fun g =>
      let h := g.handOut it o
      { h with state := h.state.afterTransaction o.isFault }

/-- A recovery as it begins: SCLx released in the same happening, so that its first hold begins with it (R125,
R128). -/
def Recovery.fresh (now : Tick) (stretch : Byte) : Recovery :=
  { pulses := 0, stage := .opening, hold := some { since := now, limit := stretch } }

/-- The beginning of a recovery: its record, and FAULT_x (R122, R131, R136). -/
def beginRecovery (s : State) (x : Seg) : State :=
  (s.updSeg x fun g => { g with recovery := some (.fresh s.tick g.cfg.stretch) }).raise (faultCause x)

/-- A detected fault ends the item and begins the segment's recovery; a loader read begins none (R122, R124). -/
def faultEnd (s : State) (x : Seg) (it : Item) (o : TxOutcome) : State :=
  let s1 := closeItem s x it o
  match it.supplier with
  | .loader => s1
  | _ => beginRecovery s1 x

/-- The times an item runs under: the segment's, or for a loader read the power-on values (R89, R182). -/
def itemConfig (g : Segment) (it : Item) : SegConfig :=
  match it.supplier with
  | .loader => .powerOn
  | _ => g.cfg

/-- A work-item record as a grant creates it: latched fields, attempt 1 open, counts 0, marks clear (R117,
R89). -/
def Item.granted (t : Target) (i : Fin 32) (supplier : Supplier) (form : Form) (now : Tick) : Item :=
  { supplier := supplier, target := some i, address := t.cfg.address, speed := t.cfg.speed, width := t.cfg.width
    retryLimit := t.cfg.retryLimit, form := form, attempts := 1, writeCount := 0, readCount := 0
    phase := .opening, cut := false, cutLate := false, detached := false, bytes := [], second := false
    point := .free, since := now, hold := none }

/-- The work item of a loader read of the piece at an offset (R182). -/
def Item.loaderPiece (cfgadr : BitVec 2) (offset : Nat) (now : Tick) : Item :=
  { supplier := .loader, target := none, address := Config.memoryBase + cfgadr.setWidth 7, speed := .standard
    width := 2, retryLimit := Config.loaderRetries, form := .loaderRead (BitVec.ofNat 16 offset), attempts := 1
    writeCount := 0, readCount := 0, phase := .opening, cut := false, cutLate := false, detached := false
    bytes := [], second := false, point := .free, since := now, hold := none }

/-- The loader begins the read of its next piece on engine A (R182). -/
def beginPiece (s : State) : State :=
  s.updSeg .a fun g => { g with item := some (.loaderPiece s.cfgadr s.loader.bytes.length s.tick) }

/-! ### Recovery (7.2) -/

/-- What a sample of SDAx does to a recovery: it goes on, makes its stop, or fails. -/
inductive RecoveryStep where
  | on (r : Recovery)
  | succeeded
  | failed
deriving DecidableEq, Repr

/-- One sample of SDAx in a recovery: the opening sample (R125), that of a pulse (R126), that of the recovery
stop (R127). -/
def Recovery.sample (r : Recovery) (high : Bool) : RecoveryStep :=
  match r.stage with
  | .opening => .on { r with stage := if high then .stop else .pulse }
  | .pulse =>
    let n := r.pulses + 1
    if high then .on { r with pulses := n, stage := .stop }
    else if n < 9 then .on { r with pulses := n }
    else .failed
  | .stop =>
    if high then .succeeded
    else if r.pulses < 9 then .on { r with stage := .pulse }
    else .failed

/-- A recovery over samples of SDAx, oldest first: how it stands after the last, or none where it would have ended before
the last (R125 to R127). -/
def Recovery.run (r : Recovery) : List Bool → Option RecoveryStep
  | [] => some (.on r)
  | b :: rest =>
    match r.sample b with
    | .on r' => r'.run rest
    | .succeeded => if rest = [] then some .succeeded else none
    | .failed => if rest = [] then some .failed else none

/-! ### Detach (1.6) -/

/-- Mark the item in flight detached where it is a poll or alert read that names entry `i` (R19, R100). -/
def Item.detach (it : Item) (i : Fin 32) : Item :=
  match it.supplier with
  | .poll _ _ => if it.target = some i then { it with detached := true } else it
  | .alert => if it.target = some i then { it with detached := true } else it
  | _ => it

/-- A report of a poll or alert read that names entry `i` is dropped when a TGT_WRITE or TGT_CLEAR of the entry is taken
first (R20). A descriptor's report is not: it waits while its descriptor may have retired, and reaches the entry as it
then stands (R33; log entry 5). -/
def TableReport.detach (r : TableReport) (i : Fin 32) : TableReport :=
  if decide (r.target = i) && !r.ofDescriptor then { r with dropped := true } else r

/-- Detach entry `i` on a segment: the item in flight, and reports sent but not yet taken (R19, R20). -/
def Segment.detach (g : Segment) (i : Fin 32) : Segment :=
  { g with item := g.item.map (·.detach i), tableReports := g.tableReports.map (·.detach i) }

/-- Detach entry `i` on whichever segment its item runs (R19). -/
def detach (s : State) (i : Fin 32) : State :=
  (s.updSeg .a (·.detach i)).updSeg .b (·.detach i)

end Sys2Proof.Machine
end

