-- ==== Sys2Proof/Machine/Operands.lean ====
section
/-! DEFINITION. Operand forms: the fields of the staging registers and record bodies, the legality of each set of
configured fields, the images the host reads, and the register window (chapter 12). -/

namespace Sys2Proof.Machine

/-- Field of `n` bits of a word, its lowest bit at `lo`. -/
def field (w : Word) (lo n : Nat) : BitVec n := w.extractLsb' lo n

/-! ### Codes (Table 12-10) -/

/-- kind code -/
def Kind.code : Kind → BitVec 3
  | .probe => 0
  | .write => 1
  | .read => 2
  | .writeRead => 3
  | .blockRead => 4

/-- The kind a code names; 5..7 name none. -/
def kindOf (c : BitVec 3) : Option Kind :=
  match c.toNat with
  | 0 => some .probe
  | 1 => some .write
  | 2 => some .read
  | 3 => some .writeRead
  | 4 => some .blockRead
  | _ => none

/-- outcome code -/
def TxOutcome.code : TxOutcome → BitVec 4
  | .ok => 0
  | .nackAddress => 1
  | .nackData => 2
  | .stretchTimeout => 3
  | .busFault => 4
  | .blockLengthBad => 5
  | .aborted => 6
  | .cancelled => 7
  | .expired => 8
  | .targetQuarantined => 9

/-- target entry state code -/
def TgtState.code : TgtState → BitVec 3
  | .vacant => 0
  | .unknown => 1
  | .present => 2
  | .missing => 3
  | .quarantined => 4

/-- compare mode code -/
def CompareMode.code : CompareMode → BitVec 3
  | .none => 0
  | .above => 1
  | .below => 2
  | .outside => 3
  | .change => 4

/-- The compare mode a code names; 5..7 name none. -/
def modeOf (c : BitVec 3) : Option CompareMode :=
  match c.toNat with
  | 0 => some .none
  | 1 => some .above
  | 2 => some .below
  | 3 => some .outside
  | 4 => some .change
  | _ => none

/-- alarm state code -/
def AlarmState.code : AlarmState → BitVec 2
  | .normal => 0
  | .high => 1
  | .low => 2
  | .stale => 3

/-- segment state code; PAUSING over either work shows PAUSING (R196) -/
def SegState.code : SegState → BitVec 4
  | .disabled => 0
  | .ready => 1
  | .busy => 2
  | .pausingTxn => 3
  | .pausingRec => 3
  | .paused => 4
  | .recovery => 5
  | .halted => 6

/-- resolver state code -/
def ResState.code : ResState → BitVec 2
  | .idle => 0
  | .pending => 1
  | .sweeping => 2
  | .holdoff => 3

/-- load state code -/
def LoadState.code : LoadState → BitVec 3
  | .loading => 1
  | .done => 2
  | .failed => 3
  | .skipped => 4

/-- reason code -/
def LoadReason.code : LoadReason → BitVec 4
  | .none => 0
  | .memoryAbsent => 1
  | .bus => 2
  | .badType => 3
  | .badLength => 4
  | .badField => 5
  | .duplicate => 6
  | .undefinedTarget => 7
  | .overlong => 8
  | .checksum => 9

/-- segment bit or byte: 0 A, 1 B -/
def segBit : Seg → Bool
  | .a => false
  | .b => true

/-- The segment of its bit. -/
def segOfBit (b : Bool) : Seg := if b then .b else .a

/-- speed bit: 0 STANDARD, 1 FAST -/
def Speed.bit : Speed → Bool
  | .standard => false
  | .fast => true

/-- The speed class of its bit. -/
def speedOfBit (b : Bool) : Speed := if b then .fast else .standard

/-- byte order bit: 0 FIRST_HIGH, 1 FIRST_LOW -/
def ByteOrder.bit : ByteOrder → Bool
  | .firstHigh => false
  | .firstLow => true

/-- The byte order of its bit. -/
def orderOfBit (b : Bool) : ByteOrder := if b then .firstLow else .firstHigh

/-- The clear mode of its bit: 0 WRITE_ONE, 1 READ_CLEARS. -/
def clearModeOfBit (b : Bool) : ClearMode := if b then .readClears else .writeOne

/-- clear mode bit -/
def ClearMode.bit : ClearMode → Bool
  | .writeOne => false
  | .readClears => true

/-! ### Descriptor staging (R24, Table 12-4) -/

/-- The staged descriptor, each field as the registers hold it. -/
structure StagedDescriptor where
  tag : Byte
  target : Nat
  kind : Option Kind
  indexPresent : Bool
  notify : Bool
  page : Fin 32
  index : Word
  writeLen : Nat
  readLen : Nat
  deadline : Word
deriving DecidableEq, Repr

/-- DS0..DS4 as SUBMIT reads them. -/
def stagedDescriptor (ds : Vector Word 5) : StagedDescriptor :=
  { tag := field (ds.get 0) 8 8
    target := (field (ds.get 0) 0 8).toNat
    kind := kindOf (field (ds.get 1) 13 3)
    indexPresent := (ds.get 1).getLsbD 12
    notify := (ds.get 1).getLsbD 11
    page := idx32 (field (ds.get 1) 0 5).toNat
    index := ds.get 2
    writeLen := (field (ds.get 3) 8 7).toNat
    readLen := (field (ds.get 3) 0 7).toNat
    deadline := ds.get 4 }

/-- A length that a kind requires to be 1..64. -/
def lengthGiven (n : Nat) : Bool := decide (1 ≤ n) && decide (n ≤ 64)

/-- The lengths of a kind's row of Table 2-2. -/
def Kind.lengthsOk : Kind → Nat → Nat → Bool
  | .probe, w, r => decide (w = 0) && decide (r = 0)
  | .write, w, r => lengthGiven w && decide (r = 0)
  | .read, w, r => decide (w = 0) && lengthGiven r
  | .writeRead, w, r => lengthGiven w && lengthGiven r
  | .blockRead, w, r => decide (w = 0) && lengthGiven r

/-- An index fits width 0 only when it is 0000H, width 1 when it is at most 00FFH, width 2 whatever it is
(R2). -/
def indexFits (width : BitVec 2) (index : Word) : Bool :=
  if width = 0 then decide (index = 0) else if width = 1 then decide (index.toNat ≤ 0xFF) else true

/-- Whether the index of a staged descriptor may be sent to a target of a width (R25, check 7 of R27). -/
def StagedDescriptor.indexOk (d : StagedDescriptor) (width : BitVec 2) : Bool :=
  !d.indexPresent || (decide (d.kind ≠ some .probe) && decide (width ≠ 0) && indexFits width d.index)

/-! ### Target configuration (R2, Tables 12-5 and 12-12) -/

/-- The configured fields of a target entry where they are legal (R2). `low` is the low byte of TS0. -/
def targetConfig (segment : Seg) (address low : Byte) (threshold : BitVec 4) (mask : Byte) (index : Word) :
    Option TargetConfig :=
  let width : BitVec 2 := low.extractLsb' 6 2
  let capable := low.getLsbD 1
  if decide (0x08 ≤ address.toNat) && decide (address.toNat ≤ 0x77) && decide (width ≠ 3) &&
      (!capable || (indexFits width index && decide (mask ≠ 0))) then
    some { segment := segment, address := address.setWidth 7, width := width, speed := speedOfBit (low.getLsbD 5)
           retryLimit := low.extractLsb' 2 3, threshold := threshold, alertCapable := capable, alertIndex := index
           alertMask := mask }
  else none

/-- The configured fields staged in TS0..TS2, where legal (R14, Table 12-5). -/
def stagedTarget (ts : Vector Word 6) : Option TargetConfig :=
  targetConfig (segOfBit ((ts.get 0).getLsbD 15)) ((field (ts.get 0) 8 7).setWidth 8) (loByte (ts.get 0))
    (field (ts.get 1) 12 4) (field (ts.get 1) 0 8) (ts.get 2)

/-- Segment and address staged in TS0, which the duplicate check compares (R3). -/
def stagedPlace (ts : Vector Word 6) : Seg × BitVec 7 :=
  (segOfBit ((ts.get 0).getLsbD 15), field (ts.get 0) 8 7)

/-- The image of a target entry in TS0..TS5; a VACANT entry reads as all fields 0 (R16, Table 12-5). -/
def targetImage (t : Target) : Vector Word 6 :=
  if t.state = .vacant then Vector.replicate 6 0
  else
    #v[ BitVec.ofBool (segBit t.cfg.segment) ++ t.cfg.address ++ t.cfg.width ++ BitVec.ofBool t.cfg.speed.bit ++
          t.cfg.retryLimit ++ BitVec.ofBool t.cfg.alertCapable ++ 0#1,
        t.cfg.threshold ++ 0#4 ++ t.cfg.alertMask,
        t.cfg.alertIndex,
        t.state.code ++ BitVec.ofNat 4 t.failures ++ BitVec.ofNat 6 t.refs ++ BitVec.ofBool t.alerting ++
          BitVec.ofBool t.alertValid ++ 0#1,
        0#8 ++ t.alertValue,
        t.lastSeen ]

/-! ### Poll configuration (R137, Table 12-6) -/

/-- A word as a whole number in a signedness (R137). -/
def valueOf (signed : Bool) (w : Word) : Int := if signed then w.toInt else (w.toNat : Int)

/-- The conditions of R137 on configured fields whose compare mode code names a mode. -/
def PollConfig.legal (c : PollConfig) : Bool :=
  (decide (c.width = 1) || decide (c.width = 2)) && decide (1 ≤ c.period.toNat) && decide (c.period.toNat ≤ 60000) &&
    decide (c.phase.toNat ≤ 60000) && decide (c.staleLimit ≠ 0) &&
    (decide (c.mode ≠ .outside) || decide (valueOf c.signed c.low ≤ valueOf c.signed c.high))

/-- The configured fields of the words PS0..PS6, where legal. -/
def pollConfig (w0 w1 w2 w3 w4 w5 w6 : Word) : Option PollConfig :=
  match modeOf (field w0 8 3) with
  | none => none
  | some mode =>
    let c : PollConfig :=
      { target := idx32 (field w0 0 5).toNat, register := w1, width := field w0 13 2
        order := orderOfBit (w0.getLsbD 12), signed := w0.getLsbD 11, period := w2, phase := w3, mode := mode
        high := w4, low := w5, hysteresis := field w6 8 8, staleLimit := field w6 4 4, notify := w0.getLsbD 15 }
    if c.legal then some c else none

/-- The configured fields staged in PS0..PS6, where legal (R140). -/
def stagedPoll (ps : Vector Word 8) : Option PollConfig :=
  pollConfig (ps.get 0) (ps.get 1) (ps.get 2) (ps.get 3) (ps.get 4) (ps.get 5) (ps.get 6)

/-- The image of a poll entry in PS0..PS7: the last value stands where the phase was staged (R144,
Table 12-6). -/
def pollImage (p : Poll) : Vector Word 8 :=
  #v[ BitVec.ofBool p.cfg.notify ++ p.cfg.width ++ BitVec.ofBool p.cfg.order.bit ++ BitVec.ofBool p.cfg.signed ++
        p.cfg.mode.code ++ 0#3 ++ BitVec.ofNat 5 p.cfg.target.val,
      p.cfg.register,
      p.cfg.period,
      p.lastValue,
      p.cfg.high,
      p.cfg.low,
      p.cfg.hysteresis ++ p.cfg.staleLimit ++ 0#3 ++ BitVec.ofBool p.enabled,
      BitVec.ofNat 8 p.overruns ++ BitVec.ofNat 4 p.misses ++ p.alarm.code ++ BitVec.ofBool p.flag ++
        BitVec.ofBool p.valid ]

/-! ### Segment configuration (R104, Table 12-7) -/

/-- The six fields of a segment configuration, where legal (R104). -/
def segConfig (busFree stretch gap share : Byte) (enable : Bool) (holdoff : Byte) : Option SegConfig :=
  if decide (busFree ≠ 0) && decide (stretch ≠ 0) && decide (gap.toNat ≤ 15) && decide (1 ≤ share.toNat) &&
      decide (share.toNat ≤ 8) && decide (holdoff ≠ 0) then
    some { busFree := busFree, stretch := stretch, retryGap := gap.setWidth 4, pollShare := share.setWidth 4
           alertEnable := enable, holdoff := holdoff }
  else none

/-- The configuration staged in SS0..SS2, where legal (R105). -/
def stagedSeg (ss : Vector Word 3) : Option SegConfig :=
  segConfig (field (ss.get 0) 8 8) (field (ss.get 0) 0 8) ((field (ss.get 1) 12 4).setWidth 8)
    ((field (ss.get 1) 8 4).setWidth 8) ((ss.get 1).getLsbD 0) (field (ss.get 2) 0 8)

/-- The image of a segment configuration in SS0..SS2 (R106). -/
def segImage (c : SegConfig) : Vector Word 3 :=
  #v[ c.busFree ++ c.stretch, c.retryGap ++ c.pollShare ++ 0#7 ++ BitVec.ofBool c.alertEnable, 0#8 ++ c.holdoff ]

/-! ### Writes of the host to plain registers (R194, R192) -/

/-- The bits of a staging register that hold a field (Tables 12-4 to 12-7); 0 for every other address. -/
def fieldBits (addr : BitVec 6) : Word :=
  match addr.toNat with
  | 0x11 => 0xFFFF
  | 0x12 => 0xF81F
  | 0x13 => 0xFFFF
  | 0x14 => 0x7F7F
  | 0x15 => 0xFFFF
  | 0x20 => 0xFFFE
  | 0x21 => 0xF0FF
  | 0x22 => 0xFFFF
  | 0x23 => 0xFFFE
  | 0x24 => 0x00FF
  | 0x25 => 0xFFFF
  | 0x28 => 0xFF1F
  | 0x29 => 0xFFFF
  | 0x2A => 0xFFFF
  | 0x2B => 0xFFFF
  | 0x2C => 0xFFFF
  | 0x2D => 0xFFFF
  | 0x2E => 0xFFF1
  | 0x2F => 0xFFFF
  | 0x30 => 0xFFFF
  | 0x31 => 0xFF01
  | 0x32 => 0x00FF
  | _ => 0x0000

/-- A host write to a staging register stores its field bits; to a read-only register or an unused address it is
ignored (R194, R192). -/
def writePlain (s : State) (addr : BitVec 6) (w : Word) : State :=
  let v := w &&& fieldBits addr
  match addr.toNat with
  | 0x11 => { s with ds := vset s.ds 0 v }
  | 0x12 => { s with ds := vset s.ds 1 v }
  | 0x13 => { s with ds := vset s.ds 2 v }
  | 0x14 => { s with ds := vset s.ds 3 v }
  | 0x15 => { s with ds := vset s.ds 4 v }
  | 0x20 => { s with ts := vset s.ts 0 v }
  | 0x21 => { s with ts := vset s.ts 1 v }
  | 0x22 => { s with ts := vset s.ts 2 v }
  | 0x23 => { s with ts := vset s.ts 3 v }
  | 0x24 => { s with ts := vset s.ts 4 v }
  | 0x25 => { s with ts := vset s.ts 5 v }
  | 0x28 => { s with ps := vset s.ps 0 v }
  | 0x29 => { s with ps := vset s.ps 1 v }
  | 0x2A => { s with ps := vset s.ps 2 v }
  | 0x2B => { s with ps := vset s.ps 3 v }
  | 0x2C => { s with ps := vset s.ps 4 v }
  | 0x2D => { s with ps := vset s.ps 5 v }
  | 0x2E => { s with ps := vset s.ps 6 v }
  | 0x2F => { s with ps := vset s.ps 7 v }
  | 0x30 => { s with ss := vset s.ss 0 v }
  | 0x31 => { s with ss := vset s.ss 1 v }
  | 0x32 => { s with ss := vset s.ss 2 v }
  | _ => s

/-! ### The local bus (R192) -/

/-- An access of the local bus. -/
inductive BusAccess where
  | read
  | write
deriving DecidableEq, Repr

/-- What the strobes make of a word of the window: an access where CSn and exactly one of RDn and WRn are low (R192). -/
def busAccess (csLow rdLow wrLow : Bool) : Option BusAccess :=
  match csLow, rdLow, wrLow with
  | true, true, false => some .read
  | true, false, true => some .write
  | _, _, _ => none

/-- The word the part drives on D15..D0, where it drives them: during a read taken while RSTn is high (R192, R198). -/
def dataDriven (s : State) (csLow rdLow wrLow : Bool) (word : Word) : Option Word :=
  if decide (busAccess csLow rdLow wrLow = some .read) && !s.rstnLow then some word else none

/-! ### Views of the host (R195, R196) -/

/-- A descriptor whose outcome is fixed: FINISHED, CANCELLED or EXPIRED (R31). -/
def DescState.settled : DescState → Bool
  | .finished _ _ _ _ => true
  | .cancelled => true
  | .expired => true
  | _ => false

/-- Whether the head of a queue is FINISHED, CANCELLED or EXPIRED. -/
def headSettled (q : List Descriptor) : Bool :=
  match q with
  | d :: _ => d.state.settled
  | [] => false

/-- The retire-wait indication WAIT_x (R51). -/
def retireWait (s : State) (x : Seg) : Bool :=
  headSettled (s.seg x).queue && decide (s.ring.length = Config.ringSlots)

/-- SEGSTAT_x (Table 12-9). -/
def segStat (g : Segment) : Word :=
  g.state.code ++ g.resolver.state.code ++ BitVec.ofNat 5 g.queue.length ++ 0#5

/-- RINGSTAT (Table 12-9). -/
def ringStat (s : State) : Word :=
  BitVec.ofBool (retireWait s .b) ++ BitVec.ofBool (retireWait s .a) ++ 0#8 ++ BitVec.ofNat 6 s.ring.length

/-- The image of a completion entry (Table 12-8). -/
def completionImage (c : Completion) : Vector Word 5 :=
  #v[ c.tag ++ c.kind.code ++ BitVec.ofNat 5 c.target.val,
      1#1 ++ 0#3 ++ c.outcome.code ++ BitVec.ofNat 4 c.attempts ++ 0#4,
      BitVec.ofNat 8 c.writeCount ++ BitVec.ofNat 8 c.readCount,
      0#8 ++ BitVec.ofBool c.page.isSome ++ BitVec.ofBool c.notify ++ 0#1 ++ BitVec.ofNat 5 (c.page.getD 0).val,
      c.stamp ]

/-- CE0..CE4: the image of the oldest entry, or 0000H where the ring is empty (R55). -/
def ceImage (ring : List Completion) : Vector Word 5 :=
  match ring with
  | c :: _ => completionImage c
  | [] => Vector.replicate 5 0

/-- LOADSTAT word 0 (Table 12-9). -/
def loadStat0 (l : Loader) : Word :=
  l.state.code ++ 0#1 ++ l.reason.code ++ BitVec.ofNat 8 l.good

/-- LOADSTAT word 1 (Table 12-9). -/
def loadStat1 (l : Loader) : Word := 0#4 ++ BitVec.ofNat 12 l.offset

/-- EVCTRL (Table 12-9). -/
def evCtrl (s : State) : Word := BitVec.ofBool s.clearMode.bit ++ 0#9 ++ s.watermark

/-- PAGEPTR (Table 12-9). -/
def pagePtr (s : State) : Word := 0#3 ++ s.ptrPage ++ 0#2 ++ s.ptrOffset

/-- The page named by the pointer. -/
def ptrPageIdx (s : State) : Fin 32 := idx32 s.ptrPage.toNat

/-- Whether a page is lent to a descriptor (R63). -/
def lent (s : State) (p : Fin 32) : Bool := (s.holders.get p).isSome

/-- The word a PAGEDATA read returns: the byte at the pointer, or 0000H for a lent page (R68, R70). -/
def pageData (s : State) : Word :=
  if lent s (ptrPageIdx s) then 0
  else (s.mem.read (pageAddr (ptrPageIdx s) s.ptrOffset.toNat)).setWidth 16

/-- PAGELENT_LO (`base` 0) and PAGELENT_HI (`base` 16) (R72). -/
def pageLentWord (s : State) (base : Nat) : Word := bitsOf (fun n => lent s (idx32 (base + n))) 16

/-- ALERTING_LO (`base` 0) and ALERTING_HI (`base` 16) (1.4). -/
def alertingWord (s : State) (base : Nat) : Word := bitsOf (fun n => (s.target (idx32 (base + n))).alerting) 16

/-- ALARM_LO (`base` 0) and ALARM_HI (`base` 16); positions above entry 23 read 0 (R157). -/
def alarmWord (s : State) (base : Nat) : Word :=
  bitsOf (fun n => decide (base + n < 24) && (s.poll (idx24 (base + n))).flag) 16

/-- The word at an address of the register window, as it stands (Table 12-1). Reading PAGEDATA, TICK_LO and
EVENT has side effects too, which their own rows give. -/
def window (s : State) (addr : BitVec 6) : Word :=
  match addr.toNat with
  | 0x00 => Config.id
  | 0x01 => Config.rev
  | 0x02 => s.cmd
  | 0x03 => s.cmdres
  | 0x04 => loadStat0 s.loader
  | 0x05 => loadStat1 s.loader
  | 0x07 => stampOf s.tick
  | 0x08 => s.capture
  | 0x09 => eventWord s
  | 0x0A => s.mask
  | 0x0B => evCtrl s
  | 0x0C => alarmWord s 0
  | 0x0D => alarmWord s 16
  | 0x0E => segStat s.segA
  | 0x0F => segStat s.segB
  | 0x10 => ringStat s
  | 0x11 => s.ds.get 0
  | 0x12 => s.ds.get 1
  | 0x13 => s.ds.get 2
  | 0x14 => s.ds.get 3
  | 0x15 => s.ds.get 4
  | 0x18 => (ceImage s.ring).get 0
  | 0x19 => (ceImage s.ring).get 1
  | 0x1A => (ceImage s.ring).get 2
  | 0x1B => (ceImage s.ring).get 3
  | 0x1C => (ceImage s.ring).get 4
  | 0x20 => s.ts.get 0
  | 0x21 => s.ts.get 1
  | 0x22 => s.ts.get 2
  | 0x23 => s.ts.get 3
  | 0x24 => s.ts.get 4
  | 0x25 => s.ts.get 5
  | 0x28 => s.ps.get 0
  | 0x29 => s.ps.get 1
  | 0x2A => s.ps.get 2
  | 0x2B => s.ps.get 3
  | 0x2C => s.ps.get 4
  | 0x2D => s.ps.get 5
  | 0x2E => s.ps.get 6
  | 0x2F => s.ps.get 7
  | 0x30 => s.ss.get 0
  | 0x31 => s.ss.get 1
  | 0x32 => s.ss.get 2
  | 0x34 => pagePtr s
  | 0x35 => pageData s
  | 0x36 => pageLentWord s 0
  | 0x37 => pageLentWord s 16
  | 0x38 => alertingWord s 0
  | 0x39 => alertingWord s 16
  | _ => 0

/-! ### Views of the wire (5.2) -/

/-- Nominal times of a clock pulse, in nanoseconds (Table 5-2). -/
structure BitTimes where
  bit : Nat
  low : Nat
  high : Nat
  /-- start hold and stop setup -/
  hold : Nat
deriving DecidableEq, Repr

/-- The bit times of a speed class (R76, Table 5-2). -/
def bitTimes : Speed → BitTimes
  | .standard => { bit := 10000, low := 5000, high := 5000, hold := 5000 }
  | .fast => { bit := 2500, low := 1500, high := 1000, hold := 1000 }

/-- Frequency in MHz of CLKIN that the sampled straps select, from which the tick and the bit times are derived (0.8,
R120). -/
def clkinMHz (s : State) : Nat :=
  match s.fsel.toNat with
  | 0 => 8
  | 1 => 16
  | _ => 24

/-- The eight data bits of a byte in the order they are sent, high bit first (R79). -/
def wireBits (b : Byte) : List Bool := (List.range 8).map fun n => b.getLsbD (7 - n)

/-- The byte of eight sampled bits, high bit first (R80). -/
def byteOfBits (bits : List Bool) : Byte := bits.foldl (fun b bit => b <<< 1 ||| (BitVec.ofBool bit).setWidth 8) 0

/-- Whether the engine has SDAx released in a hold where its item stands: before a repeated start, while it receives bits, in
the ninth bit of a byte it sent, and in its own NACK; for a bit it sends, log entry 15 (R79, R80, R82, R83). -/
def Item.dataReleased (it : Item) : Bool :=
  match it.point, it.phase with
  | .condition, ph => decide (ph = .restart)
  | .bits, .lengthByte => true
  | .bits, .dataIn _ => true
  | .bits, _ => false
  | .ninth, .lengthByte => it.cut && !it.cutLate
  | .ninth, .dataIn _ => decide (it.answer 0 = some false)
  | .ninth, ph => ph.hasByte
  | .free, _ => false

/-- Whether an item's engine has both lines released for certain: off the wires, or in a hold, where SCLx is released, with
SDAx released too (R77, R81, R90). -/
def Item.linesReleased (it : Item) : Bool := it.offWires || (decide (it.hold ≠ none) && it.dataReleased)

/-- Whether a recovery has both lines released for certain: from its opening to the opening sample (R125), and in the hold of
a pulse, given with SDAx released (R126); the stop pulls SDAx low (R127). -/
def Recovery.linesReleased (r : Recovery) : Bool :=
  match r.stage with
  | .opening => true
  | .pulse => decide (r.hold ≠ none)
  | .stop => false

/-- Whether an engine has both lines of its segment released for certain: RSTn low, no work item and no recovery, or where its
item or its recovery has (R75, R77, R81, R90, R103, R125, R126, R130, R198). Elsewhere the level changes within a bit or a
condition (log entry 15). -/
def linesReleased (s : State) (x : Seg) : Bool :=
  s.rstnLow || ((s.seg x).recovery.all Recovery.linesReleased && (s.seg x).item.all Item.linesReleased)

end Sys2Proof.Machine
end

