-- ==== Sys2Proof/Machine/Alerts.lean ====
section
/-! DEFINITION. The Alert Resolvers' happenings (chapter 9). -/

namespace Sys2Proof.Machine

/-- A change of the ALERT line: the pin takes its level, and a watching IDLE resolver looks at it (R160). The pin
follows the board while RSTn is low too. -/
def alertLineChange (x : Seg) (low : Bool) (s : State) : State :=
  let s1 := s.updSeg x fun g => { g with alertLow := low }
  if s.rstnLow then s1 else lookAtLine x s1

/-- R160 -/
def execAlertLineChange (x : Seg) (low : Bool) (s : State) : Result := .next (alertLineChange x low s)

/-- The holdoff runs out: PENDING on a low line, IDLE otherwise (R165). -/
def holdoffEnd (x : Seg) (s : State) : Option State :=
  let g := s.seg x
  if decide (g.resolver.state = .holdoff) && decide (g.resolver.holdLen.toNat ≤ elapsed g.resolver.holdStart s.tick) then
    some (if g.alertLow then beginSweep x s
          else s.updSeg x fun g => { g with resolver := { g.resolver with state := .idle } })
  else none

/-- R165 -/
def execHoldoffEnd (x : Seg) (s : State) : Result := .next (happen s (holdoffEnd x s))

/-- The sweep record after a result (R163). -/
def Resolver.told (r : Resolver) (res : AlertResult) : Resolver :=
  { r with outstanding := false, found := r.found || decide (res ≠ .nothing) }

/-- The oldest waiting result of an alert read is taken; the sweep may end (R163, R164). -/
def alertResult (x : Seg) (s : State) : Option State :=
  let g := s.seg x
  match g.alertResults with
  | res :: rest =>
    some (endSweep x (s.setSeg x { g with
      alertResults := rest
      resolver := if g.resolver.outstanding then g.resolver.told res else g.resolver }))
  | [] => none

/-- R163 -/
def execAlertResult (x : Seg) (s : State) : Result := .next (happen s (alertResult x s))

end Sys2Proof.Machine
end

