-- ==== Sys2Proof/Machine/Polls.lean ====
section
/-! DEFINITION. The Poll Unit: its commands, due times, reports and judgement (chapter 8). -/

namespace Sys2Proof.Machine

/-! ### Commands (8.2) -/

/-- The effect of POLL_WRITE: the configured fields alone (R140). -/
def pollWrite (i : Fin 24) (s : State) : State :=
  match stagedPoll s.ps with
  | some cfg => s.setPoll i { s.poll i with cfg := cfg }
  | none => s

/-- R140 -/
def execPollWrite (arg : Byte) (s : State) : Result :=
  .next (command 0x20 arg 24
    (fun t => [ ((t.poll (idx24 arg.toNat)).enabled, .entryInUse), ((stagedPoll t.ps).isNone, .badField) ])
    (pollWrite (idx24 arg.toNat)) s)

/-- R144 -/
def execPollRead (arg : Byte) (s : State) : Result :=
  .next (command 0x21 arg 24 (fun _ => []) (fun t => { t with ps := pollImage (t.poll (idx24 arg.toNat)) }) s)

/-- An entry as POLL_ENABLE leaves it (R141). -/
def Poll.enable (p : Poll) (now : Tick) : Poll :=
  { p.reschedule now with enabled := true, valid := false, alarm := .normal, misses := 0, overruns := 0 }

/-- The checks of POLL_ENABLE on a disabled entry (R141). -/
def pollEnableChecks (i : Fin 24) (s : State) : List (Bool × ResultCode) :=
  let p := s.poll i
  let t := s.target p.cfg.target
  [ (!p.enabled && decide (t.state = .vacant), .badTarget),
    (!p.enabled && decide (t.cfg.width = 1) && decide (0xFF < p.cfg.register.toNat), .badIndex) ]

/-- The effect of POLL_ENABLE (R141). -/
def pollEnable (i : Fin 24) (s : State) : State :=
  let p := s.poll i
  if p.enabled then s
  else
    let t := s.target p.cfg.target
    (s.setTarget p.cfg.target { t with refs := t.refs + 1 }).setPoll i (p.enable s.tick)

/-- R141 -/
def execPollEnable (arg : Byte) (s : State) : Result :=
  .next (command 0x22 arg 24 (pollEnableChecks (idx24 arg.toNat)) (pollEnable (idx24 arg.toNat)) s)

/-- POLL_DISABLE turns CURRENT into ORPHANED (R143). -/
def ReadMark.withdrawn : ReadMark → ReadMark
  | .current => .orphaned
  | m => m

/-- The effect of POLL_DISABLE (R142). -/
def pollDisable (i : Fin 24) (s : State) : State :=
  let p := s.poll i
  if p.enabled then
    let t := s.target p.cfg.target
    (s.setTarget p.cfg.target { t with refs := t.refs - 1 }).setPoll i
      { p with enabled := false, mark := p.mark.withdrawn, owed := .nothing }
  else s

/-- R142 -/
def execPollDisable (arg : Byte) (s : State) : Result :=
  .next (command 0x23 arg 24 (fun _ => []) (pollDisable (idx24 arg.toNat)) s)

/-! ### Misses, alarm flags and due times (8.3 to 8.5, 8.7) -/

/-- Set the alarm flag for an event of the entry, where its notify is yes (R156). -/
def Poll.flagIf (p : Poll) (event : Bool) : Poll := { p with flag := p.flag || (event && p.cfg.notify) }

/-- A miss: the count, and STALE at the stale limit (R151). -/
def Poll.miss (p : Poll) : Poll :=
  let n := min (p.misses + 1) 15
  if decide (p.alarm ≠ .stale) && decide (p.cfg.staleLimit.toNat ≤ n) then
    { p with misses := n, alarm := .stale, valid := false }.flagIf true
  else { p with misses := n }

/-- Becoming due stores nothing: an entry is due by the test of R145, made whenever it is needed (log entry 7). -/
def execPollDue (_i : Fin 24) (s : State) : Result := .next (happen s (some s))

/-- The next-due tick one period on (R146, R147, R149); with period 0, of an entry never written, it stays (log entry 26). -/
def Poll.advance (p : Poll) : Poll := { p with nextDue := p.nextDue + span p.cfg.period, owed := .nothing }

/-- The overrun an advance found, where the entry is still due for it (R147, R148). -/
def pollOverrun (i : Fin 24) (s : State) : Option State :=
  let p := s.poll i
  if decide (p.owed = .overrun) && due s p && decide (p.cfg.period.toNat ≤ elapsed p.nextDue s.tick) then
    some ((s.setPoll i { p.advance with overruns := min (p.overruns + 1) 255 }).raise .overrun)
  else none

/-- R147 -/
def execPollOverrun (i : Fin 24) (s : State) : Result := .next (happen s (pollOverrun i s))

/-- The quarantine miss an advance found, where the target is still QUARANTINED (R149). -/
def quarantineMiss (i : Fin 24) (s : State) : Option State :=
  let p := s.poll i
  if decide (p.owed = .miss) && scheduled s p && reached s p && pollQuarantined s p then
    some (s.setPoll i p.advance.miss)
  else none

/-- R149 -/
def execQuarantineMiss (i : Fin 24) (s : State) : Result := .next (happen s (quarantineMiss i s))

/-! ### Value and judgement (8.5, 8.6) -/

/-- The value of a good read as a 16-bit pattern in the entry's signedness, for a value width of 1 or 2 (R152). `Poll.value`
takes it for no other width. -/
def assemble (c : PollConfig) (bytes : List Byte) : Word :=
  let b0 := bytes.getD 0 0
  let b1 := bytes.getD 1 0
  if c.width = 1 then (if c.signed then b0.signExtend 16 else b0.setWidth 16)
  else
    match c.order with
    | .firstHigh => wordOf b0 b1
    | .firstLow => wordOf b1 b0

/-- The value of a good read of an entry (R152). POLL_ENABLE takes an entry never written, of value width 0 (R141, R158), and
R152 has no row for that width: the value is then free (log entry 26). -/
def Poll.value (p : Poll) (bytes : List Byte) : Word :=
  if p.cfg.width = 1 ∨ p.cfg.width = 2 then assemble p.cfg bytes else Config.valueOfNoWidth p.latestGrant bytes

/-- Bottom of the range of a signedness (R137). -/
def rangeBottom (signed : Bool) : Int := if signed then -32768 else 0

/-- Top of the range of a signedness (R137). -/
def rangeTop (signed : Bool) : Int := if signed then 32767 else 65535

/-- The return threshold of the high limit (R153). -/
def highReturn (c : PollConfig) : Int :=
  max (rangeBottom c.signed) (valueOf c.signed c.high - c.hysteresis.toNat)

/-- The return threshold of the low limit (R153). -/
def lowReturn (c : PollConfig) : Int :=
  min (rangeTop c.signed) (valueOf c.signed c.low + c.hysteresis.toNat)

/-- The alarm state a value leads to from a starting state (Tables 8-3 and 8-4, R155). A starting state the
mode cannot be in is judged as NORMAL (log entry 10). -/
def judge (c : PollConfig) (start : AlarmState) (v : Int) : AlarmState :=
  let hi := valueOf c.signed c.high
  let lo := valueOf c.signed c.low
  match c.mode, start with
  | .none, _ => .normal
  | .change, _ => .normal
  | .above, .high => if v ≤ highReturn c then .normal else .high
  | .above, _ => if hi < v then .high else .normal
  | .below, .low => if lowReturn c ≤ v then .normal else .low
  | .below, _ => if v < lo then .low else .normal
  | .outside, .high => if v < lo then .low else if v ≤ highReturn c then .normal else .high
  | .outside, .low => if hi < v then .high else if lowReturn c ≤ v then .normal else .low
  | .outside, _ => if hi < v then .high else if v < lo then .low else .normal

/-- A CHANGE event: the value moved by more than the hysteresis from a valid last value (R155). -/
def changeEvent (p : Poll) (v : Int) : Bool :=
  decide (p.cfg.mode = .change) && p.valid &&
    decide ((p.cfg.hysteresis.toNat : Int) < |v - valueOf p.cfg.signed p.lastValue|)

/-- A good read (R152): miss count 0, judgement from the state that validity gives, value stored, flag set for a
change of alarm state or a CHANGE event. -/
def Poll.goodRead (p : Poll) (bytes : List Byte) : Poll :=
  let w := p.value bytes
  let v := valueOf p.cfg.signed w
  let next := judge p.cfg (if p.valid then p.alarm else .normal) v
  { p with misses := 0, alarm := next, lastValue := w, valid := true }.flagIf
    (decide (next ≠ p.alarm) || changeEvent p v)

/-- A report the Poll Unit uses (R150). -/
def Poll.take (p : Poll) (o : TxOutcome) (bytes : List Byte) : Poll :=
  if o = .ok then { p.goodRead bytes with mark := .none } else { p.miss with mark := .none }

/-- What an entry makes of a report of one of its reads, by its grant and the read mark (R143). -/
def Poll.report (p : Poll) (r : PollReport) : Poll :=
  if p.latestGrant = r.grant then
    (if p.mark = .current then p.take r.outcome r.bytes else { p with mark := .none })
  else p

/-- The oldest waiting poll report of a segment is taken (R150). -/
def pollReadReport (x : Seg) (s : State) : Option State :=
  match (s.seg x).pollReports with
  | r :: rest =>
    let s1 := s.updSeg x fun g => { g with pollReports := rest }
    some (s1.setPoll r.entry ((s1.poll r.entry).report r))
  | [] => none

/-- R150 -/
def execPollReadReport (x : Seg) (s : State) : Result := .next (happen s (pollReadReport x s))

end Sys2Proof.Machine
end

