-- ==== Sys2Proof/Machine/Arbiter.lean ====
section
/-! DEFINITION. The Segment Arbiter (6.3). -/

namespace Sys2Proof.Machine

/-- The alert candidate of a segment: the lowest qualifying index at or above the cursor of a resolver that is
PENDING or SWEEPING with no read outstanding (R161, R114). -/
def alertCandidate (s : State) (x : Seg) : Option (Fin 32) :=
  let r := (s.seg x).resolver
  if r.inSweep && !r.outstanding then nextQualifying s x r.cursor else none

/-- Whether poll entry `i` is a candidate of a segment's arbiter (R114, R145). -/
def pollCandidate (s : State) (x : Seg) (i : Fin 24) : Bool :=
  due s (s.poll i) && decide (pollSeg s (s.poll i) = x)

/-- Whether entry `i` fell due earlier than entry `j`, by elapsed time up to the present tick (R115). -/
def earlier (s : State) (i j : Fin 24) : Bool :=
  decide (elapsed (s.poll j).nextDue s.tick < elapsed (s.poll i).nextDue s.tick)

/-- The first of a list of entries that no other fell due earlier than. -/
def earliest (s : State) : List (Fin 24) → Option (Fin 24)
  | [] => none
  | i :: rest =>
    match earliest s rest with
    | some j => if earlier s j i then some j else some i
    | none => some i

/-- The poll the arbiter would take: the earliest candidate, the lowest index where several are equally early
(R115). -/
def bestPoll (s : State) (x : Seg) : Option (Fin 24) :=
  earliest s ((List.finRange 24).filter (pollCandidate s x))

/-- The queue candidate: the head, when it is QUEUED (R114, R32). -/
def queueCandidate (s : State) (x : Seg) : Option Descriptor :=
  match (s.seg x).queue with
  | d :: _ => if d.state = .queued then some d else none
  | [] => none

/-- What a grant decision picks. -/
inductive Pick where
  | nothing
  | alert (i : Fin 32)
  | poll (i : Fin 24)
  | head (d : Descriptor)
deriving DecidableEq, Repr

/-- The choice of a grant decision (R115). -/
def pick (s : State) (x : Seg) : Pick :=
  match alertCandidate s x with
  | some i => .alert i
  | none =>
    match bestPoll s x, queueCandidate s x with
    | some i, some d => if (s.seg x).cfg.pollShare.toNat ≤ (s.seg x).streak then .poll i else .head d
    | some i, none => .poll i
    | none, some d => .head d
    | none, none => .nothing

/-- The engine's share of a grant: the record, and the segment BUSY (R117). -/
def startItem (s : State) (x : Seg) (it : Item) : State :=
  s.updSeg x fun g => { g with state := .busy, item := some it }

/-- The grant of an alert read: SWEEPING, the cursor past it, read outstanding (R117, R162). -/
def grantAlert (s : State) (x : Seg) (i : Fin 32) : State :=
  let t := s.target i
  let s1 := s.updSeg x fun g => { g with
    resolver := { g.resolver with state := .sweeping, cursor := i.val + 1, outstanding := true } }
  startItem s1 x (.granted t i .alert (.alertRead t.cfg.alertIndex) s.tick)

/-- The grant of a poll read: next-due tick one period on, mark CURRENT, streak 0 (R117, R146, R115). -/
def grantPoll (s : State) (x : Seg) (i : Fin 24) : State :=
  let p := s.poll i
  let t := s.target p.cfg.target
  let s1 := s.setPoll i { p.advance with mark := .current, latestGrant := s.grants }
  let s2 := { s1 with grants := s.grants + 1 }.updSeg x fun g => { g with streak := 0 }
  startItem s2 x (.granted t p.cfg.target (.poll i s.grants) (.pollRead p.cfg.register p.cfg.width) s.tick)

/-- The head of a queue in a new state. -/
def setHeadState (q : List Descriptor) (st : DescState) : List Descriptor :=
  match q with
  | d :: rest => { d with state := st } :: rest
  | [] => []

/-- The queue candidate is taken: the quarantine head check, or its grant (R35, R32, R117). -/
def grantHead (s : State) (x : Seg) (d : Descriptor) : State :=
  let t := s.target d.target
  if t.state = .quarantined then
    s.updSeg x fun g => { g with queue := setHeadState g.queue (.finished .targetQuarantined 0 0 0) }
  else
    let s1 := s.updSeg x fun g => { g with queue := setHeadState g.queue .active, streak := min (g.streak + 1) 8 }
    startItem s1 x (.granted t d.target .queue
      (.descriptor d.kind d.indexPresent d.index d.writeLen d.readLen d.page) s.tick)

/-- A grant decision of a READY segment with a candidate (R114, R115). -/
def grantDecision (x : Seg) (s : State) : Option State :=
  if (s.seg x).state = .ready then
    match pick s x with
    | .nothing => none
    | .alert i => some (grantAlert s x i)
    | .poll i => some (grantPoll s x i)
    | .head d => some (grantHead s x d)
  else none

/-- R115 -/
def execGrantDecision (x : Seg) (s : State) : Result := .next (happen s (grantDecision x s))

end Sys2Proof.Machine
end

