-- ==== Sys2Proof/Machine/Wires.lean ====
section
/-! DEFINITION. What an engine sees on its wires between two rows of the table: the bus found free, a condition made, a
byte's eighth bit, the holds of the clock, and the samples of a recovery (5.2, 7.2; log entry 13). -/

namespace Sys2Proof.Machine

/-- Whether the eighth bit of a byte is taken by PAGE_STORE, a row of its own: a data byte of a descriptor (R66). -/
def Item.storesByte (it : Item) : Bool :=
  match it.phase, it.form with
  | .dataIn _, .descriptor .. => true
  | _, _ => false

/-- What the wires do to the work item in flight, where it stands so that they can (R77, R78, R79, R80, R81, R82). A cut
marked while a start or repeated start is made lets the condition complete and then makes a closing stop (Table 5-7). -/
def Item.wire (it : Item) (now : Tick) (w : Wire) : Option Item :=
  match w with
  | .busFree =>
    if decide (it.phase = .opening) && decide (it.point = .free) then some { it with point := .condition } else none
  | .started =>
    if (decide (it.phase = .opening) || decide (it.phase = .restart)) && decide (it.point = .condition) &&
        decide (it.hold = none) then
      some (if it.cut then { it with phase := .stop (.ended .aborted) }.settle now else { it with point := .bits })
    else none
  | .eighth =>
    if decide (it.point = .bits) && decide (it.hold = none) && !it.storesByte then some { it with point := .ninth } else none
  | .held => if it.clocked && decide (it.hold = none) then some { it with hold := some now } else none
  | .clockHigh => some { it with hold := none }
  | .sampled _ => none

/-- What the wires do to a recovery. The sample that ends one is a row of its own (R125 to R129). -/
def Recovery.wire (r : Recovery) (now : Tick) (stretch : Byte) (w : Wire) : Option Recovery :=
  match w with
  | .held => if r.hold = none then some { r with hold := some { since := now, limit := stretch } } else none
  | .clockHigh => some { r with hold := none }
  | .sampled high =>
    if r.hold = none then
      match r.sample high with
      | .on r' => some r'
      | _ => none
    else none
  | _ => none

/-- What the wires do to a segment: to its item in flight, and to its recovery where there is none. -/
def Segment.wire (g : Segment) (now : Tick) (w : Wire) : Option Segment :=
  match g.item with
  | some it => (it.wire now w).map fun it' => { g with item := some it' }
  | none =>
    match g.recovery with
    | some r => (r.wire now g.cfg.stretch w).map fun r' => { g with recovery := some r' }
    | none => none

/-- One happening on the wires of a segment is taken, where the segment stands so that it can be. -/
def takeWire (x : Seg) (w : Wire) (s : State) : State := (((s.seg x).wire s.tick w).map (s.setSeg x)).getD s

/-- Happenings on the wires are taken in the order they came. -/
def takeWires (seen : List (Seg × Wire)) (s : State) : State := seen.foldl (fun u h => takeWire h.1 h.2 u) s

/-- What the wires did in the millisecond that an advance ends is taken (log entry 13). -/
def takeMillisecond (s : State) : State :=
  match s.wires with
  | [] => s
  | seen :: rest => takeWires seen { s with wires := rest }

/-- What a command says that the wires did before it is taken; nothing while RSTn is low (log entries 3 and 13). -/
def takeBefore (seen : List (Seg × Wire)) (s : State) : State := if s.rstnLow then s else takeWires seen s

/-- What the wires must have done next to an item at which a row comes too early: SCLx seen high, the bus found free, the
condition made, the eighth bit (log entry 13). -/
def Item.onward (it : Item) (now : Tick) : Option Item :=
  if it.hold.isSome then it.wire now .clockHigh
  else
    match it.point with
    | .free => it.wire now .busFree
    | .condition => it.wire now .started
    | .bits => it.wire now .eighth
    | .ninth => none

/-- The item brought on by the wires, at most `n` times, until a row can be taken of it. -/
def Item.bring (ready : Item → Bool) (now : Tick) : Nat → Item → Option Item
  | 0, it => if ready it then some it else none
  | n + 1, it => if ready it then some it else (it.onward now).bind (Item.bring ready now n)

/-- The item as it stands when a row is taken of it: where the row is `ready`, with what the wires must have done since
the last row and State.wires left unsaid. A hold ends and four points follow at most; none where the row cannot come. -/
def Item.bringTo (ready : Item → Bool) (now : Tick) (it : Item) : Option Item := Item.bring ready now 4 it

end Sys2Proof.Machine
end

