-- ==== Sys2Proof/Machine/Engine.lean ====
section
/-! DEFINITION. The Segment Engine's happenings: transactions (chapter 5) and recovery (chapter 7). -/

namespace Sys2Proof.Machine

/-! ### Fault detections (R84) -/

/-- The bus-free check, still under way, runs past the bus-free timeout (R77). -/
def busFreeTimeout (x : Seg) (s : State) : Option State :=
  match (s.seg x).item with
  | some it =>
    if decide (it.phase = .opening) && decide (it.point = .free) &&
        decide ((itemConfig (s.seg x) it).busFree.toNat < elapsed it.since s.tick) then
      some (faultEnd s x it .busFault)
    else none
  | none => none

/-- R77 -/
def execBusFreeTimeout (x : Seg) (s : State) : Result := .next (happen s (busFreeTimeout x s))

/-- The hold under way runs past the stretch timeout, from the moment its SCLx was released (R81). -/
def stretchTimeout (x : Seg) (s : State) : Option State :=
  match (s.seg x).item with
  | some it =>
    match it.hold with
    | some since =>
      if (itemConfig (s.seg x) it).stretch.toNat < elapsed since s.tick then some (faultEnd s x it .stretchTimeout)
      else none
    | none => none
  | none => none

/-- R81 -/
def execStretchTimeout (x : Seg) (s : State) : Result := .next (happen s (stretchTimeout x s))

/-- Whether the engine samples SDAx where it released it and expects it high; a sample is taken only while SCLx is seen
high, so never in a hold (R76, R79, R80, R82, R83). -/
def Item.expectsHigh (m : Memory) (it : Item) : Bool := decide (it.hold = none) && mismatchPossible m it

/-- SDAx sampled low where the engine released it and expects it high (R84). -/
def dataMismatch (x : Seg) (s : State) : Option State :=
  ((s.seg x).item.bind (Item.bringTo (Item.expectsHigh s.mem) s.tick)).map fun it => faultEnd s x it .busFault

/-- R84 -/
def execDataMismatch (x : Seg) (s : State) : Result := .next (happen s (dataMismatch x s))

/-! ### Bytes -/

/-- A presence report is sent for an acknowledged address, unless the item is detached (R85, R100). -/
def Segment.reportPresence (g : Segment) (it : Item) : Segment :=
  if it.detached then g else g.report it .presence

/-- Whether a byte's ninth pulse is under way with no hold in it. -/
def Item.atNinth (it : Item) : Bool := decide (it.hold = none) && decide (it.point = .ninth) && it.phase.hasByte

/-- The end of a byte's ninth pulse, once its high part has been seen (R79, R81). -/
def byteEnd (x : Seg) (ack : Bool) (byte : Byte) (s : State) : Option State :=
  match (s.seg x).item.bind (Item.bringTo Item.atNinth s.tick) with
  | some it =>
    match it.byteEnd ack byte with
    | some (it', presence) =>
      some (s.updSeg x fun g =>
        let h := { g with item := some (it'.settle s.tick) }
        if presence then h.reportPresence it else h)
    | none => none
  | none => none

/-- R79 -/
def execByteEnd (x : Seg) (ack : Bool) (byte : Byte) (s : State) : Result := .next (happen s (byteEnd x ack byte s))

/-- Whether the engine is receiving a data byte in the eight bits of it, with no hold under way. -/
def Item.receivesData (it : Item) : Bool :=
  match it.phase with
  | .dataIn _ => decide (it.hold = none) && decide (it.point = .bits)
  | _ => false

/-- A data byte of a descriptor received in full is stored at the next offset of its page and counted, and the ninth bit
follows (R66, R80, R94). -/
def pageStore (x : Seg) (byte : Byte) (s : State) : Option State :=
  match (s.seg x).item.bind (Item.bringTo Item.receivesData s.tick) with
  | some it =>
    match it.form.page with
    | some p =>
      let s1 := { s with mem := s.mem.write (pageAddr p it.readCount) byte }
      some (s1.updSeg x fun g => { g with item := some { it with readCount := it.readCount + 1, point := .ninth } })
    | none => none
  | none => none

/-- R66 -/
def execPageStore (x : Seg) (byte : Byte) (s : State) : Result := .next (happen s (pageStore x byte s))

/-! ### Attempts and the end of a transaction (5.4, 5.6) -/

/-- Whether the stop before a retry is being made, with no hold in it. -/
def Item.atRetryStop (it : Item) : Bool := decide (it.hold = none) && decide (it.phase = .stop .retry)

/-- The stop before a retry completes (R90). -/
def retryGapBegin (x : Seg) (s : State) : Option State :=
  ((s.seg x).item.bind (Item.bringTo Item.atRetryStop s.tick)).map fun it =>
    s.updSeg x fun g => { g with item := some ({ it with phase := .gap }.settle s.tick) }

/-- R90 -/
def execRetryGapBegin (x : Seg) (s : State) : Result := .next (happen s (retryGapBegin x s))

/-- The next attempt opens with a bus-free check (R89, R90). -/
def Item.reopen (it : Item) (now : Tick) : Item :=
  { it with attempts := it.attempts + 1, phase := .opening, bytes := [], second := false, point := .free, since := now
            hold := none }

/-- The retry gap runs out (R90). -/
def retryGapEnd (x : Seg) (s : State) : Option State :=
  match (s.seg x).item with
  | some it =>
    if decide (it.phase = .gap) && decide ((itemConfig (s.seg x) it).retryGap.toNat ≤ elapsed it.since s.tick) then
      some (s.updSeg x fun g => { g with item := some (it.reopen s.tick) })
    else none
  | none => none

/-- R90 -/
def execRetryGapEnd (x : Seg) (s : State) : Result := .next (happen s (retryGapEnd x s))

/-- The outcome that the closing stop under way is made for. -/
def Item.closing (it : Item) : Option TxOutcome :=
  match it.phase with
  | .stop (.ended o) => some o
  | _ => none

/-- Whether a closing stop is being made, with no hold in it. -/
def Item.atClosingStop (it : Item) : Bool := decide (it.hold = none) && it.closing.isSome

/-- The closing stop completes (R83, R96). -/
def transactionEnd (x : Seg) (s : State) : Option State :=
  match (s.seg x).item.bind (Item.bringTo Item.atClosingStop s.tick) with
  | some it => it.closing.map fun o => closeItem s x it o
  | none => none

/-- R96 -/
def execTransactionEnd (x : Seg) (s : State) : Result := .next (happen s (transactionEnd x s))

/-! ### Recovery (R125 to R129) -/

/-- State of a segment when its recovery succeeds (R129). -/
def SegState.recovered : SegState → SegState
  | .recovery => .ready
  | .pausingRec => .paused
  | st => st

/-- State of a segment when its recovery fails; a pause is dropped (R129). -/
def SegState.halt : SegState → SegState
  | .recovery => .halted
  | .pausingRec => .halted
  | st => st

/-- The samples left lead to a recovery stop sampled high, and the stop is made; a hold under way before them has ended
(R127, R129). -/
def recoverySucceeded (x : Seg) (samples : List Bool) (s : State) : Option State :=
  match (s.seg x).recovery with
  | some r =>
    if r.run samples = some .succeeded then
      some (s.updSeg x fun g => { g with recovery := none, state := g.state.recovered })
    else none
  | none => none

/-- R129 -/
def execRecoverySucceeded (x : Seg) (samples : List Bool) (s : State) : Result :=
  .next (happen s (recoverySucceeded x samples s))

/-- The failure of a recovery (R129); HALT_x follows the state (R136). -/
def failRecovery (s : State) (x : Seg) : State :=
  s.updSeg x fun g => { g with recovery := none, state := g.state.halt }

/-- The samples left lead to a low one at pulse count 9: that of the ninth pulse, or that of a stop (R126, R127). -/
def recoveryFailed (x : Seg) (samples : List Bool) (s : State) : Option State :=
  match (s.seg x).recovery with
  | some r => if r.run samples = some .failed then some (failRecovery s x) else none
  | none => none

/-- R129 -/
def execRecoveryFailed (x : Seg) (samples : List Bool) (s : State) : Result :=
  .next (happen s (recoveryFailed x samples s))

/-- The recovery hold under way runs past the stretch timeout read as it began (R128). -/
def recoveryHoldTimeout (x : Seg) (s : State) : Option State :=
  match (s.seg x).recovery with
  | some r =>
    match r.hold with
    | some h => if h.limit.toNat < elapsed h.since s.tick then some (failRecovery s x) else none
    | none => none
  | none => none

/-- R128 -/
def execRecoveryHoldTimeout (x : Seg) (s : State) : Result := .next (happen s (recoveryHoldTimeout x s))

end Sys2Proof.Machine
end

