-- ==== Sys2Proof/Decode.lean ====
section
/-! DEFINITION. The words of the host window that spell commands (R193, Table 12-2), what row a host access is (Table
12-1), and decodeTableWord: no row of spec/opcode_table.json gives bits, so a word is read as the CMD word it is. -/

namespace Sys2Proof

/-- The command code of a CMD word, bits 15..8 (R193). -/
def codeOf (w : Word) : Byte := w.extractLsb' 8 8

/-- The argument of a CMD word, bits 7..0 (R193). -/
def argOf (w : Word) : Byte := w.setWidth 8

/-- The command that a host write of `w` to CMD is, by Table 12-2 (R193). -/
def commandOf (w : Word) : Instr :=
  match (codeOf w).toNat with
  | 0x01 => .submit (argOf w)
  | 0x02 => .pop (argOf w)
  | 0x03 => .abort (argOf w) []
  | 0x04 => .pause (argOf w)
  | 0x05 => .resume (argOf w)
  | 0x06 => .segEnable (argOf w)
  | 0x07 => .segDisable (argOf w)
  | 0x08 => .segWrite (argOf w)
  | 0x09 => .segRead (argOf w)
  | 0x0A => .recover (argOf w)
  | 0x10 => .tgtWrite (argOf w)
  | 0x11 => .tgtRead (argOf w)
  | 0x12 => .tgtClear (argOf w)
  | 0x13 => .tgtRelease (argOf w)
  | 0x14 => .ackAlert (argOf w)
  | 0x20 => .pollWrite (argOf w)
  | 0x21 => .pollRead (argOf w)
  | 0x22 => .pollEnable (argOf w)
  | 0x23 => .pollDisable (argOf w)
  | 0x30 => .softReset (argOf w)
  | 0x31 => .reload (argOf w)
  | _ => .badCommand w

/-- The command a word spells: a word of 16 bits is a CMD word, the only words that spell commands; the rows of the
table give no bits of their own (R193; log entry 17). -/
def decodeTableWord (nbits w : Nat) : Option Instr := if nbits = 16 then some (commandOf (BitVec.ofNat 16 w)) else none

/-- The CMD word that a command row is, by Table 12-2; none for a row that is no CMD write, and for an ABORT that says more
than its word: what the wires did before it. -/
def Instr.cmdWord : Instr → Option Word
  | .submit arg => some (0x01#8 ++ arg)
  | .pop arg => some (0x02#8 ++ arg)
  | .abort arg [] => some (0x03#8 ++ arg)
  | .abort _ (_ :: _) => none
  | .pause arg => some (0x04#8 ++ arg)
  | .resume arg => some (0x05#8 ++ arg)
  | .segEnable arg => some (0x06#8 ++ arg)
  | .segDisable arg => some (0x07#8 ++ arg)
  | .segWrite arg => some (0x08#8 ++ arg)
  | .segRead arg => some (0x09#8 ++ arg)
  | .recover arg => some (0x0A#8 ++ arg)
  | .tgtWrite arg => some (0x10#8 ++ arg)
  | .tgtRead arg => some (0x11#8 ++ arg)
  | .tgtClear arg => some (0x12#8 ++ arg)
  | .tgtRelease arg => some (0x13#8 ++ arg)
  | .ackAlert arg => some (0x14#8 ++ arg)
  | .pollWrite arg => some (0x20#8 ++ arg)
  | .pollRead arg => some (0x21#8 ++ arg)
  | .pollEnable arg => some (0x22#8 ++ arg)
  | .pollDisable arg => some (0x23#8 ++ arg)
  | .softReset arg => some (0x30#8 ++ arg)
  | .reload arg => some (0x31#8 ++ arg)
  | .badCommand word => some word
  | _ => none

/-- The codes of Table 12-2. -/
def commandCodes : List Byte :=
  [0x01, 0x02, 0x03, 0x04, 0x05, 0x06, 0x07, 0x08, 0x09, 0x0A, 0x10, 0x11, 0x12, 0x13, 0x14,
   0x20, 0x21, 0x22, 0x23, 0x30, 0x31]

/-- Whether a code names a command (Table 12-2). -/
def namesCommand (code : Byte) : Bool := commandCodes.contains code

/-- The window addresses whose writes the table of commands gives rows of their own: CMD, EVENT, EVMASK,
EVCTRL, ALARM_LO, ALARM_HI, PAGEPTR and PAGEDATA (Table 12-1). -/
def hasOwnWrite (addr : BitVec 6) : Bool :=
  [0x02#6, 0x09#6, 0x0A#6, 0x0B#6, 0x0C#6, 0x0D#6, 0x34#6, 0x35#6].contains addr

/-- The row that a host write of a word at a window address is: a write to CMD is the command its word spells (R192, R193,
Table 12-1). -/
def hostWrite (addr : BitVec 6) (w : Word) : Instr :=
  match addr.toNat with
  | 0x02 => commandOf w
  | 0x09 => .eventWrite w
  | 0x0A => .evMaskWrite w
  | 0x0B => .evCtrlWrite w
  | 0x0C => .alarmFlagsWrite false w
  | 0x0D => .alarmFlagsWrite true w
  | 0x34 => .pagePtrWrite w
  | 0x35 => .pageDataWrite w
  | _ => .registerWrite addr w

/-- The row that a host read at a window address is, for the three reads with a side effect; none for every other
address, whose word the read returns and leaves as it stands (R192). -/
def hostRead (addr : BitVec 6) : Option Instr :=
  match addr.toNat with
  | 0x07 => some .tickLoRead
  | 0x09 => some .eventRead
  | 0x35 => some .pageDataRead
  | _ => none

end Sys2Proof
end

