-- ==== Sys2Proof/WellFormed.lean ====
section
/-! DEFINITION. Which terms of Instr are commands of their row: the operands a row excludes. -/

namespace Sys2Proof

/-- BAD_COMMAND is a CMD write whose code names no command (R193), and REGISTER_WRITE is a write to a register
with no write behaviour of its own (R194). Every other row takes every value of its operands. -/
def Instr.wf : Instr → Bool
  | .badCommand w => !namesCommand (codeOf w)
  | .registerWrite addr _ => !hasOwnWrite addr
  | _ => true

end Sys2Proof
end

