-- ==== Sys2Proof/Machine/HostPort.lean ====
section
/-! DEFINITION. Host accesses that are no commands, and BAD_COMMAND (chapters 4, 10 and 12). -/

namespace Sys2Proof.Machine

/-- The host writes a word at a window address: the row it is waits behind the commands that wait already (R192,
R193). -/
def State.hostWrites (s : State) (addr : BitVec 6) (w : Word) : State :=
  { s with pending := s.pending ++ [hostWrite addr w] }

/-- The advance of the page pointer: from 63 to 0 within the same page (R68). -/
def State.advancePointer (s : State) : State := { s with ptrOffset := s.ptrOffset + 1 }

/-- BAD_COMMAND: LOADING first, then BAD_COMMAND (R193). -/
def badCommand (w : Word) (s : State) : State :=
  if s.rstnLow then s
  else { s with cmd := w }.refuse (codeOf w) (if s.isLoading then .loading else .badCommand)

/-- R193 -/
def execBadCommand (w : Word) (s : State) : Result :=
  if (Instr.badCommand w).wf then .next (badCommand w s) else .refused .illFormed

/-- R67 -/
def execPagePtrWrite (w : Word) (s : State) : Result :=
  .next (happen s (some { s with ptrPage := field w 8 5, ptrOffset := field w 0 6 }))

/-- R68, R70 -/
def execPageDataRead (s : State) : Result :=
  .next (happen s (some
    (let s1 := { s with lastRead := pageData s }.advancePointer
     if lent s (ptrPageIdx s) then s1.raise .conflict else s1)))

/-- R69, R70 -/
def execPageDataWrite (w : Word) (s : State) : Result :=
  .next (happen s (some
    (if lent s (ptrPageIdx s) then s.advancePointer.raise .conflict
     else { s with mem := s.mem.write (pageAddr (ptrPageIdx s) s.ptrOffset.toNat) (loByte w) }.advancePointer)))

/-- R121 -/
def execTickLoRead (s : State) : Result :=
  .next (happen s (some { s with lastRead := stampOf s.tick, capture := s.tick.extractLsb' 16 16 }))

/-- R171 -/
def execEventRead (s : State) : Result :=
  .next (happen s (some
    (let w := eventWord s
     match s.clearMode with
     | .writeOne => { s with lastRead := w }
     | .readClears => { s with lastRead := w, latched := s.latched &&& ~~~ w })))

/-- R172 -/
def execEventWrite (w : Word) (s : State) : Result :=
  .next (happen s (some
    (match s.clearMode with
     | .writeOne => { s with latched := s.latched &&& ~~~ w }
     | .readClears => s)))

/-- R175 -/
def execEvMaskWrite (w : Word) (s : State) : Result :=
  .next (happen s (some { s with mask := w &&& causeBits }))

/-- R176 -/
def execEvCtrlWrite (w : Word) (s : State) : Result :=
  .next (happen s (some
    (if decide (1 ≤ (field w 0 6).toNat) && decide ((field w 0 6).toNat ≤ 32) then
       { s with clearMode := clearModeOfBit (w.getLsbD 15), watermark := field w 0 6 }
     else s)))

/-- Clear the alarm flags of the entries from `base` up whose bits are written 1 (R157). -/
def clearAlarmFlags (polls : Vector Poll 24) (base : Nat) (w : Word) : Vector Poll 24 :=
  vfill fun i =>
    let p := polls.get i
    if decide (base ≤ i.val) && w.getLsbD (i.val - base) then { p with flag := false } else p

/-- R157 -/
def execAlarmFlagsWrite (hi : Bool) (w : Word) (s : State) : Result :=
  .next (happen s (some { s with polls := clearAlarmFlags s.polls (if hi then 16 else 0) w }))

/-- R194, R192 -/
def execRegisterWrite (addr : BitVec 6) (w : Word) (s : State) : Result :=
  if (Instr.registerWrite addr w).wf then .next (happen s (some (writePlain s addr w))) else .refused .illFormed

end Sys2Proof.Machine
end

