-- ==== Sys2Proof/Machine/Targets.lean ====
section
/-! DEFINITION. The Target Table's commands and the reports it takes (chapter 1). -/

namespace Sys2Proof.Machine

/-! ### Commands (1.5) -/

/-- Whether a segment and address are those of a non-VACANT entry other than `i` (R3). -/
def duplicatePlace (s : State) (i : Fin 32) (place : Seg × BitVec 7) : Bool :=
  (List.finRange 32).any fun j =>
    decide (j ≠ i) && decide ((s.target j).state ≠ .vacant) &&
      decide ((s.target j).cfg.segment = place.1) && decide ((s.target j).cfg.address = place.2)

/-- A target entry as TGT_WRITE and the commit leave it (R15, R23). -/
def Target.written (cfg : TargetConfig) : Target := { Target.empty with cfg := cfg, state := .unknown }

/-- The checks of TGT_WRITE (R14). -/
def tgtWriteChecks (i : Fin 32) (s : State) : List (Bool × ResultCode) :=
  [ (decide (0 < (s.target i).refs), .entryInUse),
    ((stagedTarget s.ts).isNone, .badField),
    (duplicatePlace s i (stagedPlace s.ts), .duplicateAddress) ]

/-- The effect of TGT_WRITE (R15); the edit may end a sweep (R164). -/
def tgtWrite (i : Fin 32) (s : State) : State :=
  match stagedTarget s.ts with
  | some cfg => endSweeps (detach (s.setTarget i (.written cfg)) i)
  | none => s

/-- R14, R15 -/
def execTgtWrite (arg : Byte) (s : State) : Result :=
  .next (command 0x10 arg 32 (tgtWriteChecks (idx32 arg.toNat)) (tgtWrite (idx32 arg.toNat)) s)

/-- R16 -/
def execTgtRead (arg : Byte) (s : State) : Result :=
  .next (command 0x11 arg 32 (fun _ => []) (fun t => { t with ts := targetImage (t.target (idx32 arg.toNat)) }) s)

/-- The effect of TGT_CLEAR; the edit may end a sweep (R17, R164). -/
def tgtClear (i : Fin 32) (s : State) : State :=
  if (s.target i).state = .vacant then s else endSweeps (detach (s.setTarget i .empty) i)

/-- R17 -/
def execTgtClear (arg : Byte) (s : State) : Result :=
  .next (command 0x12 arg 32 (fun t => [(decide (0 < (t.target (idx32 arg.toNat)).refs), .entryInUse)])
    (tgtClear (idx32 arg.toNat)) s)

/-- TGT_RELEASE on a non-VACANT entry (R18). -/
def Target.released (t : Target) : Target :=
  { t with failures := 0, state := if t.state = .quarantined then .unknown else t.state }

/-- R18 -/
def execTgtRelease (arg : Byte) (s : State) : Result :=
  .next (command 0x13 arg 32 (fun t => [(decide ((t.target (idx32 arg.toNat)).state = .vacant), .badTarget)])
    (fun t => t.setTarget (idx32 arg.toNat) (t.target (idx32 arg.toNat)).released) s)

/-- R18 -/
def execAckAlert (arg : Byte) (s : State) : Result :=
  .next (command 0x14 arg 32 (fun _ => [])
    (fun t => t.setTarget (idx32 arg.toNat) { t.target (idx32 arg.toNat) with alerting := false }) s)

/-! ### Reports (1.2, 1.4) -/

/-- A presence report on an entry (R5). An entry that is VACANT describes no target and is left (log entry 8). -/
def Target.seen (t : Target) (now : Tick) : Target :=
  match t.state with
  | .vacant => t
  | .unknown => { t with state := .present, lastSeen := stampOf now }
  | .missing => { t with state := .present, lastSeen := stampOf now }
  | _ => { t with lastSeen := stampOf now }

/-- The oldest waiting report of a segment, where it is a presence report, is taken (R5, R19). -/
def presenceReport (x : Seg) (s : State) : Option State :=
  match (s.seg x).tableReports with
  | r :: rest =>
    match r.body with
    | .presence =>
      let s1 := s.updSeg x fun g => { g with tableReports := rest }
      some (if r.dropped then s1 else s1.setTarget r.target ((s.target r.target).seen s.tick))
    | _ => none
  | [] => none

/-- R5 -/
def execPresenceReport (x : Seg) (s : State) : Result := .next (happen s (presenceReport x s))

/-- The outcomes that raise the failure count (Table 1-8). -/
def TxOutcome.isFailure : TxOutcome → Bool
  | .nackAddress => true
  | .nackData => true
  | .stretchTimeout => true
  | .blockLengthBad => true
  | _ => false

/-- State of an entry after a final outcome short of quarantine (Table 1-8). -/
def TgtState.afterOutcome (st : TgtState) (o : TxOutcome) : TgtState :=
  match o, st with
  | .nackAddress, .unknown => .missing
  | .nackAddress, .present => .missing
  | _, _ => st

/-- A final outcome on an entry, and whether it makes the entry QUARANTINED (Table 1-8, R7, R8). A VACANT
entry is left (log entry 8). -/
def Target.judged (t : Target) (o : TxOutcome) : Target × Bool :=
  match t.state with
  | .vacant => (t, false)
  | .quarantined => (t, false)
  | _ =>
    if o.isFailure then
      let n := min (t.failures + 1) 15
      if decide (t.cfg.threshold ≠ 0) && decide (n = t.cfg.threshold.toNat) then
        ({ t with failures := n, state := .quarantined }, true)
      else ({ t with failures := n, state := t.state.afterOutcome o }, false)
    else if o = .ok then ({ t with failures := 0 }, false)
    else (t, false)

/-- The value of an alert read that ended OK, judged against the alert mask as it stands: the entry and what
the resolver is told (R11). -/
def Target.alertRead (t : Target) (o : TxOutcome) (v : Byte) : Target × AlertResult :=
  if decide (o = .ok) && decide (v &&& t.cfg.alertMask ≠ 0) then
    ({ t with alertValue := v, alertValid := true, alerting := true }, if t.alerting then .masked else .newFlag)
  else (t, .nothing)

/-- Apply a final outcome to the entry it names (R6, R7). -/
def applyOutcome (s : State) (i : Fin 32) (o : TxOutcome) : State :=
  let j := (s.target i).judged o
  let s1 := s.setTarget i j.1
  if j.2 then s1.raise .quarantine else s1

/-- Tell a resolver an alert read's result, where it still waits for it (R163, R167). -/
def tellResolver (s : State) (x : Seg) (awaited : Bool) (r : AlertResult) : State :=
  if awaited then s.updSeg x fun g => { g with alertResults := g.alertResults ++ [r] } else s

/-- The oldest waiting report of a segment, where it is an outcome report, is taken; a dropped one changes no
entry, and a dropped alert read has found nothing (R6, R11, R19, R20). A quarantine may end a sweep (R164). -/
def outcomeReport (x : Seg) (s : State) : Option State :=
  match (s.seg x).tableReports with
  | r :: rest =>
    let s1 := s.updSeg x fun g => { g with tableReports := rest }
    match r.body with
    | .presence => none
    | .outcome o => some (if r.dropped then s1 else endSweeps (applyOutcome s1 r.target o))
    | .alertOutcome o v awaited =>
      if r.dropped then some (tellResolver s1 x awaited .nothing)
      else
        let a := (s1.target r.target).alertRead o v
        let s2 := s1.setTarget r.target a.1
        let s3 := if a.2 = .newFlag then s2.raise .alert else s2
        some (endSweeps (tellResolver (applyOutcome s3 r.target o) x awaited a.2))
  | [] => none

/-- R6 -/
def execOutcomeReport (x : Seg) (s : State) : Result := .next (happen s (outcomeReport x s))

end Sys2Proof.Machine
end

