-- ==== Sys2Proof/Machine/LoaderCheck.lean ====
section
/-! DEFINITION. The Configuration Loader: record checks, failure, commit, and the report of a read (chapter 11). -/

namespace Sys2Proof.Machine

/-! ### Record bodies (R185, R197, Table 12-12) -/

/-- Byte `n` of a list. -/
def byteAt (l : List Byte) (n : Nat) : Byte := l.getD n 0

/-- The word at byte `n` of a list, high byte first (12.5). -/
def wordAt (l : List Byte) (n : Nat) : Word := wordOf (byteAt l n) (byteAt l (n + 1))

/-- A byte that is 00H no or 01H yes; any other has no meaning (R197). -/
def yesNo (b : Byte) : Option Bool := if b = 0 then some false else if b = 1 then some true else none

/-- Body length of a record code; none for a code that is no record (R184). -/
def bodyLength (code : Byte) : Option Nat :=
  match code.toNat with
  | 0x01 => some 8
  | 0x02 => some 8
  | 0x03 => some 16
  | 0x04 => some 4
  | 0xFF => some 0
  | _ => none

/-- Fields of a SEGMENT body: segment, configuration, enable at commit (Table 12-12). -/
def segmentBody (b : List Byte) : Option (Seg × SegConfig × Bool) :=
  match yesNo (byteAt b 0), yesNo (byteAt b 5), yesNo (byteAt b 7) with
  | some x, some alert, some enable =>
    (segConfig (byteAt b 1) (byteAt b 2) (byteAt b 3) (byteAt b 4) alert (byteAt b 6)).map fun c => (segOfBit x, c, enable)
  | _, _, _ => none

/-- Fields of a TARGET body: entry index and configured fields (Table 12-12). -/
def targetBody (b : List Byte) : Option (Fin 32 × TargetConfig) :=
  match yesNo (byteAt b 1) with
  | some x =>
    if decide ((byteAt b 0).toNat ≤ 31) && decide ((byteAt b 4).toNat ≤ 15) then
      (targetConfig (segOfBit x) (byteAt b 2) (byteAt b 3) ((byteAt b 4).setWidth 4) (byteAt b 7) (wordAt b 5)).map
        fun c => (idx32 (byteAt b 0).toNat, c)
    else none
  | none => none

/-- Fields of a POLL body: entry index, configured fields, enabled mark (Table 12-12). -/
def pollBody (b : List Byte) : Option (Fin 24 × PollConfig × Bool) :=
  match yesNo (byteAt b 1) with
  | some enabled =>
    if (byteAt b 0).toNat ≤ 23 then
      (pollConfig (wordAt b 2) (wordAt b 4) (wordAt b 6) (wordAt b 8) (wordAt b 10) (wordAt b 12) (wordAt b 14)).map
        fun c => (idx24 (byteAt b 0).toNat, c, enabled)
    else none
  | none => none

/-- Fields of an EVENTS body (Table 12-12). -/
def eventsBody (b : List Byte) : Option EventSettings :=
  let w := byteAt b 3
  if (decide (byteAt b 2 = 0x00) || decide (byteAt b 2 = 0x80)) && decide (1 ≤ w.toNat) && decide (w.toNat ≤ 32) then
    some { mask := wordAt b 0 &&& causeBits, mode := clearModeOfBit (decide (byteAt b 2 = 0x80)), watermark := w.setWidth 6 }
  else none

/-- The shadow configuration of a segment. -/
def Shadow.seg (sh : Shadow) : Seg → Option (SegConfig × Bool)
  | .a => sh.segA
  | .b => sh.segB

/-- Store the shadow configuration of a segment. -/
def Shadow.setSeg (sh : Shadow) (x : Seg) (c : SegConfig × Bool) : Shadow :=
  match x with
  | .a => { sh with segA := some c }
  | .b => { sh with segB := some c }

/-- Whether another written shadow target entry has a segment and address (R185, R3). -/
def Shadow.hasPlace (sh : Shadow) (place : Seg × BitVec 7) : Bool :=
  sh.targets.toList.any fun t =>
    match t with
    | some c => decide (c.segment = place.1) && decide (c.address = place.2)
    | none => false

/-- A SEGMENT record against the shadow tables (Table 11-1). -/
def checkSegment (sh : Shadow) (b : List Byte) : Except LoadReason Shadow :=
  match segmentBody b with
  | none => .error .badField
  | some (x, c, enable) => if (sh.seg x).isSome then .error .duplicate else .ok (sh.setSeg x (c, enable))

/-- A TARGET record against the shadow tables (Table 11-1). -/
def checkTarget (sh : Shadow) (b : List Byte) : Except LoadReason Shadow :=
  match targetBody b with
  | none => .error .badField
  | some (i, c) =>
    if (sh.targets.get i).isSome || sh.hasPlace (c.segment, c.address) then .error .duplicate
    else .ok { sh with targets := vset sh.targets i (some c) }

/-- A POLL record against the shadow tables (Table 11-1). -/
def checkPoll (sh : Shadow) (b : List Byte) : Except LoadReason Shadow :=
  match pollBody b with
  | none => .error .badField
  | some (i, c, enabled) =>
    if (sh.polls.get i).isSome then .error .duplicate
    else
      match sh.targets.get c.target with
      | none => .error .undefinedTarget
      | some t =>
        if enabled && decide (t.width = 1) && decide (0xFF < c.register.toNat) then .error .badField
        else .ok { sh with polls := vset sh.polls i (some (c, enabled)) }

/-- An EVENTS record against the shadow tables (Table 11-1). -/
def checkEvents (sh : Shadow) (b : List Byte) : Except LoadReason Shadow :=
  match eventsBody b with
  | none => .error .badField
  | some e => if sh.events.isSome then .error .duplicate else .ok { sh with events := some e }

/-- The body checks of a record that is not END, by its code (R185). -/
def checkBody (sh : Shadow) (code : Byte) (b : List Byte) : Except LoadReason Shadow :=
  match code.toNat with
  | 0x01 => checkSegment sh b
  | 0x02 => checkTarget sh b
  | 0x03 => checkPoll sh b
  | _ => checkEvents sh b

/-! ### The walk along the list (R184, R186) -/

/-- The 16-bit sum of bytes (R186). -/
def byteSum (l : List Byte) : Word := l.foldl (fun w b => w + b.setWidth 16) 0

/-- How the walk stands when the bytes taken so far are used up or a check decides. -/
inductive Walk where
  /-- more bytes are needed -/
  | more (l : Loader)
  /-- a check failed, with the loader as the records before left it -/
  | failed (reason : LoadReason) (l : Loader)
  /-- the list is good -/
  | good (l : Loader)
deriving DecidableEq, Repr

/-- The checks of R184 on the record at the record offset, and on those after it, as far as the bytes taken
reach. `fuel` bounds the records. -/
def walk : Nat → Loader → Walk
  | 0, l => .more l
  | fuel + 1, l =>
    let p := l.offset
    let n := l.bytes.length
    let code := byteAt l.bytes p
    if 4092 < p then .failed .overlong l
    else if n ≤ p then .more l
    else
      match bodyLength code with
      | none => .failed .badType l
      | some len =>
        if n ≤ p + 1 then .more l
        else if (byteAt l.bytes (p + 1)).toNat ≠ len then .failed .badLength l
        else if code = 0xFF then
          if n ≤ p + 3 then .more l
          else if wordAt l.bytes (p + 2) = byteSum (l.bytes.take (p + 2)) then .good l
          else .failed .checksum l
        else if 4091 < p + 1 + len then .failed .overlong l
        else if n < p + 2 + len then .more l
        else
          match checkBody l.shadow code ((l.bytes.drop (p + 2)).take len) with
          | .error r => .failed r l
          | .ok sh => walk fuel { l with shadow := sh, good := l.good + 1, offset := p + 2 + len }

/-! ### Failure and commit (11.4) -/

/-- A failed load: shadow tables discarded, FAILED with its reason, LOAD_FAIL (R187); the list bytes, the model's own field, go
with them (log entry 27). -/
def loadFail (s : State) (reason : LoadReason) (l : Loader) : State :=
  { s with loader := { l with state := .failed, reason := reason, bytes := [], shadow := .empty } }.raise .loadFail

/-- A live target entry at the commit: references counted, a written entry as TGT_WRITE leaves it (R188, R23). -/
def committedTarget (sh : Shadow) (polls : Vector Poll 24) (live : Target) (i : Fin 32) : Target :=
  let t :=
    match sh.targets.get i with
    | some c => Target.written c
    | none => live
  { t with refs := pollRefs polls i }

/-- A live poll entry at the commit: the record's fields, enabled as by POLL_ENABLE where marked (R188, R158). -/
def committedPoll (sh : Shadow) (now : Tick) (live : Poll) (i : Fin 24) : Poll :=
  match sh.polls.get i with
  | some (c, enabled) =>
    let p := { live with cfg := c }
    if enabled then p.enable now else p
  | none => live

/-- A segment at the commit (R188). -/
def Segment.commit (g : Segment) (c : Option (SegConfig × Bool)) : Segment :=
  match c with
  | some (cfg, enable) =>
    if enable then { g with cfg := cfg, state := .ready, streak := 0 } else { g with cfg := cfg }
  | none => g

/-- The event settings at the commit (R179). -/
def commitEvents (s : State) (e : Option EventSettings) : State :=
  match e with
  | some e => { s with mask := e.mask, clearMode := e.mode, watermark := e.watermark }
  | none => s

/-- The commit of a good list, whole (R188). R188 does not say what the shadow tables hold afterwards; that they are empty is
the model's choice (log entry 27). -/
def commit (s : State) (l : Loader) : State :=
  let polls := vfill fun i => committedPoll l.shadow s.tick (s.poll i) i
  let targets := vfill fun i => committedTarget l.shadow polls (s.target i) i
  let s1 := { s with polls := polls, targets := targets }
  let s2 := s1.updSeg .a fun g => g.commit l.shadow.segA
  let s3 := s2.updSeg .b fun g => g.commit l.shadow.segB
  let s4 := commitEvents s3 l.shadow.events
  let s5 := { s4 with loader := { l with state := .done, reason := .none, bytes := [], shadow := .empty } }
  lookAtLine .b (lookAtLine .a (s5.raise .loaded))

/-- The reason a loader read that did not end OK gives (R183). -/
def readReason (first : Bool) (r : LoaderReport) : LoadReason :=
  if first && decide (r.outcome = .nackAddress) && !r.second then .memoryAbsent else .bus

/-- The loader takes the report of its read (R182 to R188). -/
def loaderReadReport (s : State) : Option State :=
  let l := s.loader
  match l.report with
  | some r =>
    if l.state = .loading then
      let l1 := { l with report := none }
      if r.outcome = .ok then
        let l2 := { l1 with bytes := l.bytes ++ r.bytes }
        match walk (l2.bytes.length + 1) l2 with
        | .more l3 => some (beginPiece { s with loader := l3 })
        | .failed reason l3 => some (loadFail s reason l3)
        | .good l3 => some (commit s l3)
      else some (loadFail s (readReason l.bytes.isEmpty r) l1)
    else none
  | none => none

/-- R182 -/
def execLoaderReadReport (s : State) : Result := .next (happen s (loaderReadReport s))

end Sys2Proof.Machine
end

