-- ==== Sys2Proof/Machine/Queues.lean ====
section
/-! DEFINITION. Command Queues and Completion Ring: SUBMIT, POP, ABORT, deadlines, retirement (chapters 2 and 3). -/

namespace Sys2Proof.Machine

/-! ### SUBMIT (2.2) -/

/-- The target entry a staged descriptor names. -/
def stagedEntry (s : State) : Target := s.target (idx32 (stagedDescriptor s.ds).target)

/-- Whether the staged kind holds its row's lengths; a code that names no kind fails check 5 before. -/
def StagedDescriptor.lengthsOk (d : StagedDescriptor) : Bool :=
  match d.kind with
  | some k => k.lengthsOk d.writeLen d.readLen
  | none => false

/-- Whether the staged kind uses a page (Table 2-2). -/
def StagedDescriptor.usesPage (d : StagedDescriptor) : Bool := decide (d.kind ≠ some .probe)

/-- The checks of SUBMIT from the second on, in order (Table 2-3). -/
def submitChecks (s : State) : List (Bool × ResultCode) :=
  let d := stagedDescriptor s.ds
  let t := stagedEntry s
  let g := s.seg t.cfg.segment
  [ (decide (31 < d.target) || decide (t.state = .vacant), .badTarget),
    (decide (t.state = .quarantined), .quarantined),
    (decide (g.state = .disabled), .segmentDisabled),
    (d.kind.isNone, .badKind),
    (!d.lengthsOk, .badLength),
    (!d.indexOk t.cfg.width, .badIndex),
    (d.usesPage && lent s d.page, .pageNotHeld),
    (decide (Config.queueSlots ≤ g.queue.length), .queueFull) ]

/-- The lowest slot number no held descriptor stands in (log entry 9). -/
def freeSlot (q : List Descriptor) : Nat :=
  ((List.range Config.queueSlots).find? fun n => q.all fun d => decide (d.slot ≠ n)).getD 0

/-- The descriptor as its slot records it at acceptance (R29). -/
def acceptedDescriptor (s : State) (q : List Descriptor) : Descriptor :=
  let d := stagedDescriptor s.ds
  { tag := d.tag, target := idx32 d.target, kind := d.kind.getD .probe, indexPresent := d.indexPresent
    index := d.index, writeLen := d.writeLen, readLen := d.readLen
    page := if d.usesPage then some d.page else none
    deadline := d.deadline, notify := d.notify, state := .queued, acceptTick := s.tick, cut := false
    slot := freeSlot q }

/-- Set the holder record of a descriptor's page, where it has one (R64, R65). -/
def setHolder (holders : Vector (Option Holder) 32) (page : Option (Fin 32)) (h : Option Holder) :
    Vector (Option Holder) 32 :=
  match page with
  | some p => vset holders p h
  | none => holders

/-- Acceptance, whole (R29). -/
def submit (s : State) : State :=
  let i := idx32 (stagedDescriptor s.ds).target
  let t := s.target i
  let x := t.cfg.segment
  let d := acceptedDescriptor s (s.seg x).queue
  let s1 := s.updSeg x fun g => { g with queue := g.queue ++ [d] }
  let s2 := s1.setTarget i { t with refs := t.refs + 1 }
  { s2 with holders := setHolder s2.holders d.page (some { seg := x, slot := d.slot }) }

/-- R27, R29 -/
def execSubmit (arg : Byte) (s : State) : Result := .next (command 0x01 arg 256 submitChecks submit s)

/-! ### ABORT (2.5, 5.7.1) -/

/-- A descriptor at an ABORT: QUEUED becomes CANCELLED, ACTIVE is marked to be cut, any other is left (R39 to
R41). -/
def Descriptor.abort (d : Descriptor) : Descriptor :=
  match d.state with
  | .queued => { d with state := .cancelled }
  | .active => { d with cut := true }
  | _ => d

/-- Set the cut mark where the engine acts on it later. The stop before a retry becomes the closing stop it is then; a
received byte whose ninth bit is being given is told from one not yet received in full (Table 5-7). -/
def Item.markCut (it : Item) : Item :=
  match it.phase with
  | .lengthByte => { it with cut := true, cutLate := decide (it.point = .ninth) }
  | .dataIn _ => { it with cut := true, cutLate := decide (it.point = .ninth) }
  | .stop .retry => { it with cut := true, phase := .stop (.ended .aborted) }
  | _ => { it with cut := true }

/-- The cut passed to the engine: only a descriptor's item is cut, and a mark already set is not changed; in a retry gap
or a bus-free check the transaction ends at once (R40, R41, R97, Table 5-7). -/
def cutItem (s : State) (x : Seg) : State :=
  match (s.seg x).item with
  | some it =>
    if decide (it.supplier = .queue) && !it.cut then
      if it.offWires then closeItem s x it .aborted
      else s.updSeg x fun g => { g with item := some it.markCut }
    else s
  | none => s

/-- The effect of ABORT (R39, R40). -/
def abort (x : Seg) (s : State) : State :=
  cutItem (s.updSeg x fun g => { g with queue := g.queue.map Descriptor.abort }) x

/-- R39, R40, R41, R97 -/
def execAbort (arg : Byte) (seen : List (Seg × Wire)) (s : State) : Result :=
  .next (command 0x03 arg 2 (fun _ => []) (abort (segOf arg)) (takeBefore seen s))

/-! ### Happenings of the queue -/

/-- Whether the deadline of a QUEUED descriptor is reached (R37). -/
def Descriptor.expires (d : Descriptor) (now : Tick) : Bool :=
  decide (d.state = .queued) && decide (d.deadline ≠ 0) && decide (d.deadline.toNat ≤ elapsed d.acceptTick now)

/-- The expiry of the descriptor at a position of a queue (R37). -/
def deadlineExpiry (x : Seg) (pos : Nat) (s : State) : Option State :=
  match (s.seg x).queue[pos]? with
  | some d =>
    if d.expires s.tick then
      some (s.updSeg x fun g => { g with queue := g.queue.set pos { d with state := .expired } })
    else none
  | none => none

/-- R37 -/
def execDeadlineExpiry (x : Seg) (pos : Fin 16) (s : State) : Result :=
  .next (happen s (deadlineExpiry x pos.val s))

/-- The queue takes the engine's report of its ACTIVE head (R33). -/
def headFinished (x : Seg) (s : State) : Option State :=
  let g := s.seg x
  match g.headReport, g.queue with
  | some r, d :: rest =>
    if d.state = .active then
      some (s.setSeg x { g with
        headReport := none
        queue := { d with state := .finished r.outcome r.attempts r.writeCount r.readCount } :: rest })
    else none
  | _, _ => none

/-- R33 -/
def execHeadFinished (x : Seg) (s : State) : Result := .next (happen s (headFinished x s))

/-- The completion entry of a settled descriptor, stamped with the tick (Table 2-5). -/
def Descriptor.completion (d : Descriptor) (now : Tick) : Option Completion :=
  let entry (o : TxOutcome) (a w r : Nat) : Completion :=
    { tag := d.tag, target := d.target, kind := d.kind, outcome := o, attempts := a, writeCount := w, readCount := r
      page := d.page, notify := d.notify, stamp := stampOf now }
  match d.state with
  | .finished o a w r => some (entry o a w r)
  | .cancelled => some (entry .cancelled 0 0 0)
  | .expired => some (entry .expired 0 0 0)
  | _ => none

/-- A target entry with one reference less (R42). -/
def Target.unref (t : Target) : Target := { t with refs := t.refs - 1 }

/-- Retirement of the head into a ring with room, whole (R42, R50). -/
def retirement (x : Seg) (s : State) : Option State :=
  match (s.seg x).queue with
  | d :: rest =>
    match d.completion s.tick with
    | some c =>
      if s.ring.length < Config.ringSlots then
        let s1 := s.updSeg x fun g => { g with queue := rest }
        let s2 := s1.setTarget d.target (s1.target d.target).unref
        some { s2 with ring := s2.ring ++ [c], holders := setHolder s2.holders d.page none }
      else none
    | none => none
  | [] => none

/-- R42, R50 -/
def execRetirement (x : Seg) (s : State) : Result := .next (happen s (retirement x s))

/-! ### POP (3.3) -/

/-- R53 -/
def execPop (arg : Byte) (s : State) : Result :=
  .next (command 0x02 arg 256 (fun t => [(t.ring.isEmpty, .ringEmpty)]) (fun t => { t with ring := t.ring.tail }) s)

end Sys2Proof.Machine
end

