-- ==== Sys2Proof/Machine/Resets.lean ====
section
/-! DEFINITION. SOFT_RESET, RELOAD and the power-on reset (chapter 11, 12.6, and the reset rules of each chapter). -/

namespace Sys2Proof.Machine

/-- A target entry after SOFT_RESET (Table 1-9). -/
def Target.softReset (t : Target) (refs : Nat) : Target :=
  { t with state := if t.state = .vacant then .vacant else .unknown, failures := 0, refs := refs, alerting := false
           alertValue := 0, alertValid := false }

/-- A poll entry after SOFT_RESET (R158). -/
def Poll.softReset (p : Poll) (now : Tick) : Poll :=
  { p.reschedule now with lastValue := 0, valid := false, alarm := .normal, misses := 0, overruns := 0, flag := false
                          mark := .none }

/-- A segment after SOFT_RESET, before its resolver looks at its line: item and recovery cut without a report,
queue emptied, enabled segments READY (R46, R102, R119, R135, R168). -/
def Segment.softReset (g : Segment) : Segment :=
  { g with state := if g.state = .disabled then .disabled else .ready, streak := 0, queue := [], item := none
           recovery := none, resolver := .atRest, headReport := none, tableReports := [], pollReports := []
           alertResults := [] }

/-- What SOFT_RESET does to every block, before the resolvers watch afresh (R190). -/
def clearWork (s : State) : State :=
  let polls := vmap (fun p => p.softReset s.tick) s.polls
  { s with segA := s.segA.softReset, segB := s.segB.softReset, ring := []
           holders := Vector.replicate 32 none
           targets := vfill (fun i => (s.target i).softReset (pollRefs polls i))
           polls := polls, latched := 0 }

/-- The effect of SOFT_RESET: the latched flags are cleared before the resolvers look at their lines (R190,
R168). -/
def softReset (s : State) : State := lookAtLine .b (lookAtLine .a (clearWork s))

/-- R190 -/
def execSoftReset (arg : Byte) (s : State) : Result := .next (command 0x30 arg 256 (fun _ => []) softReset s)

/-- The load begins: LOADING and the first read (R181, R189). -/
def beginLoad (s : State) : State :=
  beginPiece { s with loader := { Loader.skipped with state := .loading } }

/-- The effect of RELOAD (R189). -/
def reload (s : State) : State :=
  let s1 := clearWork s
  beginLoad { s1 with
    targets := Vector.replicate 32 Target.empty, polls := Vector.replicate 24 Poll.empty
    segA := Segment.powerOn s.segA.alertLow, segB := Segment.powerOn s.segB.alertLow
    mask := 0, clearMode := .writeOne, watermark := 1 }

/-- R189 -/
def execReload (arg : Byte) (s : State) : Result := .next (command 0x31 arg 256 (fun _ => []) reload s)

/-- The power-on reset of every block, with the straps sampled; the ALERT pins stand as the board holds them
(R198, R181, R191). -/
def powerOnReset (cfgen : Bool) (cfgadr fsel : BitVec 2) (s : State) : State :=
  let s1 := { State.reset with
    cfgen := cfgen, cfgadr := cfgadr, fsel := fsel, pending := s.pending, wires := s.wires
    segA := Segment.powerOn s.segA.alertLow, segB := Segment.powerOn s.segB.alertLow }
  if cfgen then beginLoad s1 else s1

/-- R198, R181 -/
def execPowerOnReset (cfgen : Bool) (cfgadr fsel : BitVec 2) (s : State) : Result :=
  .next (powerOnReset cfgen cfgadr fsel s)

/-- A segment while RSTn is low: its lines released, whatever was in progress cut (R198). -/
def Segment.cutOff (g : Segment) : Segment :=
  { g with item := none, recovery := none, headReport := none, tableReports := [], pollReports := []
           alertResults := [] }

/-- RSTn driven low, or the supply lost (R198). -/
def rstnLow (s : State) : State :=
  { s with rstnLow := true, segA := s.segA.cutOff, segB := s.segB.cutOff
           loader := { s.loader with report := none } }

/-- R198 -/
def execRstnLow (s : State) : Result := .next (rstnLow s)

end Sys2Proof.Machine
end

