-- ==== Sys2Proof/Machine/Segments.lean ====
section
/-! DEFINITION. Segment commands (chapters 6 and 7) and the Tick Timer (6.5). -/

namespace Sys2Proof.Machine

/-! ### SEG_ENABLE, SEG_DISABLE, SEG_WRITE, SEG_READ -/

/-- Set afresh the next-due tick of every enabled poll entry whose target is on a segment (R109, R145). -/
def reschedulePolls (s : State) (x : Seg) : State :=
  { s with polls := vmap (fun p => if p.enabled && decide (pollSeg s p = x) then p.reschedule s.tick else p) s.polls }

/-- The effect of SEG_ENABLE (R109, R167). -/
def segEnable (x : Seg) (s : State) : State :=
  if (s.seg x).state = .disabled then
    lookAtLine x (reschedulePolls (s.updSeg x fun g => { g with state := .ready, streak := 0 }) x)
  else s

/-- R109 -/
def execSegEnable (arg : Byte) (s : State) : Result :=
  .next (command 0x06 arg 2 (fun _ => []) (segEnable (segOf arg)) s)

/-- Whether SEG_DISABLE is refused with SEGMENT_BUSY (R110). -/
def Segment.refusesDisable (g : Segment) : Bool :=
  match g.state with
  | .disabled => false
  | .ready => decide (0 < g.queue.length)
  | .paused => decide (0 < g.queue.length)
  | .halted => decide (0 < g.queue.length)
  | _ => true

/-- The effect of SEG_DISABLE (R110, R167). -/
def segDisable (x : Seg) (s : State) : State :=
  if (s.seg x).state = .disabled then s
  else s.updSeg x fun g => { g.stopWatching with state := .disabled }

/-- R110 -/
def execSegDisable (arg : Byte) (s : State) : Result :=
  .next (command 0x07 arg 2 (fun t => [((t.seg (segOf arg)).refusesDisable, .segmentBusy)])
    (segDisable (segOf arg)) s)

/-- The checks of SEG_WRITE (R105). -/
def segWriteChecks (x : Seg) (s : State) : List (Bool × ResultCode) :=
  [ (decide ((s.seg x).state ≠ .disabled) && decide ((s.seg x).state ≠ .paused), .notPaused),
    ((stagedSeg s.ss).isNone, .badField) ]

/-- A segment with a new configuration: a resolver that no longer watches stops (R167). -/
def Segment.configured (g : Segment) (cfg : SegConfig) : Segment :=
  let g1 := { g with cfg := cfg }
  if g1.watching then g1 else g1.stopWatching

/-- The effect of SEG_WRITE: a resolver that begins to watch looks at its line (R105, R167). -/
def segWrite (x : Seg) (s : State) : State :=
  match stagedSeg s.ss with
  | some cfg =>
    let s1 := s.updSeg x (·.configured cfg)
    if (s.seg x).watching then s1 else lookAtLine x s1
  | none => s

/-- R105 -/
def execSegWrite (arg : Byte) (s : State) : Result :=
  .next (command 0x08 arg 2 (segWriteChecks (segOf arg)) (segWrite (segOf arg)) s)

/-- R106 -/
def execSegRead (arg : Byte) (s : State) : Result :=
  .next (command 0x09 arg 2 (fun _ => []) (fun t => { t with ss := segImage (t.seg (segOf arg)).cfg }) s)

/-! ### PAUSE, RESUME, RECOVER -/

/-- The state PAUSE leaves (Table 6-4). -/
def SegState.pause : SegState → SegState
  | .ready => .paused
  | .busy => .pausingTxn
  | .recovery => .pausingRec
  | st => st

/-- R111 -/
def execPause (arg : Byte) (s : State) : Result :=
  .next (command 0x04 arg 2
    (fun t => [ (decide ((t.seg (segOf arg)).state = .halted), .segmentHalted),
                (decide ((t.seg (segOf arg)).state = .disabled), .segmentDisabled) ])
    (fun t => t.updSeg (segOf arg) fun g => { g with state := g.state.pause }) s)

/-- The state RESUME leaves (R112). -/
def SegState.resume : SegState → SegState
  | .paused => .ready
  | .pausingTxn => .busy
  | .pausingRec => .recovery
  | st => st

/-- R112 -/
def execResume (arg : Byte) (s : State) : Result :=
  .next (command 0x05 arg 2 (fun _ => [])
    (fun t => t.updSeg (segOf arg) fun g => { g with state := g.state.resume }) s)

/-- The effect of RECOVER on a HALTED segment (R131). -/
def recover (x : Seg) (s : State) : State :=
  beginRecovery (s.updSeg x fun g => { g with state := .recovery }) x

/-- R131 -/
def execRecover (arg : Byte) (s : State) : Result :=
  .next (command 0x0A arg 2 (fun t => [(decide ((t.seg (segOf arg)).state ≠ .halted), .notHalted)])
    (recover (segOf arg)) s)

/-! ### Tick Timer -/

/-- What an advance to the present tick finds for a poll entry (R147, R149). -/
def owedAt (s : State) (p : Poll) : Owed :=
  if scheduled s p && reached s p then
    if pollQuarantined s p then .miss
    else if p.cfg.period.toNat ≤ elapsed p.nextDue s.tick then .overrun
    else .nothing
  else .nothing

/-- One advance: the count, and what the Poll Unit has then to take (R120, R147, R149; log entry 6). -/
def tickAdvance (s : State) : State :=
  let s1 := { s with tick := s.tick + 1 }
  { s1 with polls := vmap (fun p => { p with owed := owedAt s1 p }) s1.polls }

/-- R120 -/
def execTickAdvance (s : State) : Result := .next (happen s (some (tickAdvance (takeMillisecond s))))

end Sys2Proof.Machine
end

