-- ==== Sys2Proof/Machine/Dispatch.lean ====
section
/-! DEFINITION. exec: the meaning of each command, one arm per row of spec/opcode_table.json. -/

namespace Sys2Proof.Machine

def exec (i : Instr) (s : State) : Host.Outcome State Fault Refusal :=
  match i with
  | .submit arg => Sys2Proof.Machine.execSubmit arg s
  | .pop arg => Sys2Proof.Machine.execPop arg s
  | .abort arg seen => Sys2Proof.Machine.execAbort arg seen s
  | .pause arg => Sys2Proof.Machine.execPause arg s
  | .resume arg => Sys2Proof.Machine.execResume arg s
  | .segEnable arg => Sys2Proof.Machine.execSegEnable arg s
  | .segDisable arg => Sys2Proof.Machine.execSegDisable arg s
  | .segWrite arg => Sys2Proof.Machine.execSegWrite arg s
  | .segRead arg => Sys2Proof.Machine.execSegRead arg s
  | .recover arg => Sys2Proof.Machine.execRecover arg s
  | .tgtWrite arg => Sys2Proof.Machine.execTgtWrite arg s
  | .tgtRead arg => Sys2Proof.Machine.execTgtRead arg s
  | .tgtClear arg => Sys2Proof.Machine.execTgtClear arg s
  | .tgtRelease arg => Sys2Proof.Machine.execTgtRelease arg s
  | .ackAlert arg => Sys2Proof.Machine.execAckAlert arg s
  | .pollWrite arg => Sys2Proof.Machine.execPollWrite arg s
  | .pollRead arg => Sys2Proof.Machine.execPollRead arg s
  | .pollEnable arg => Sys2Proof.Machine.execPollEnable arg s
  | .pollDisable arg => Sys2Proof.Machine.execPollDisable arg s
  | .softReset arg => Sys2Proof.Machine.execSoftReset arg s
  | .reload arg => Sys2Proof.Machine.execReload arg s
  | .badCommand w => Sys2Proof.Machine.execBadCommand w s
  | .pagePtrWrite w => Sys2Proof.Machine.execPagePtrWrite w s
  | .pageDataRead => Sys2Proof.Machine.execPageDataRead s
  | .pageDataWrite w => Sys2Proof.Machine.execPageDataWrite w s
  | .tickLoRead => Sys2Proof.Machine.execTickLoRead s
  | .eventRead => Sys2Proof.Machine.execEventRead s
  | .eventWrite w => Sys2Proof.Machine.execEventWrite w s
  | .evMaskWrite w => Sys2Proof.Machine.execEvMaskWrite w s
  | .evCtrlWrite w => Sys2Proof.Machine.execEvCtrlWrite w s
  | .alarmFlagsWrite hi w => Sys2Proof.Machine.execAlarmFlagsWrite hi w s
  | .registerWrite addr w => Sys2Proof.Machine.execRegisterWrite addr w s
  | .powerOnReset cfgen cfgadr fsel => Sys2Proof.Machine.execPowerOnReset cfgen cfgadr fsel s
  | .alertLineChange x low => Sys2Proof.Machine.execAlertLineChange x low s
  | .tickAdvance => Sys2Proof.Machine.execTickAdvance s
  | .deadlineExpiry x pos => Sys2Proof.Machine.execDeadlineExpiry x pos s
  | .pollDue entry => Sys2Proof.Machine.execPollDue entry s
  | .pollOverrun entry => Sys2Proof.Machine.execPollOverrun entry s
  | .quarantineMiss entry => Sys2Proof.Machine.execQuarantineMiss entry s
  | .holdoffEnd x => Sys2Proof.Machine.execHoldoffEnd x s
  | .grantDecision x => Sys2Proof.Machine.execGrantDecision x s
  | .busFreeTimeout x => Sys2Proof.Machine.execBusFreeTimeout x s
  | .stretchTimeout x => Sys2Proof.Machine.execStretchTimeout x s
  | .dataMismatch x => Sys2Proof.Machine.execDataMismatch x s
  | .byteEnd x ack byte => Sys2Proof.Machine.execByteEnd x ack byte s
  | .presenceReport x => Sys2Proof.Machine.execPresenceReport x s
  | .pageStore x byte => Sys2Proof.Machine.execPageStore x byte s
  | .retryGapBegin x => Sys2Proof.Machine.execRetryGapBegin x s
  | .retryGapEnd x => Sys2Proof.Machine.execRetryGapEnd x s
  | .transactionEnd x => Sys2Proof.Machine.execTransactionEnd x s
  | .headFinished x => Sys2Proof.Machine.execHeadFinished x s
  | .outcomeReport x => Sys2Proof.Machine.execOutcomeReport x s
  | .pollReadReport x => Sys2Proof.Machine.execPollReadReport x s
  | .alertResult x => Sys2Proof.Machine.execAlertResult x s
  | .retirement x => Sys2Proof.Machine.execRetirement x s
  | .recoverySucceeded x samples => Sys2Proof.Machine.execRecoverySucceeded x samples s
  | .recoveryFailed x samples => Sys2Proof.Machine.execRecoveryFailed x samples s
  | .recoveryHoldTimeout x => Sys2Proof.Machine.execRecoveryHoldTimeout x s
  | .loaderReadReport => Sys2Proof.Machine.execLoaderReadReport s
  | .rstnLow => Sys2Proof.Machine.execRstnLow s

end Sys2Proof.Machine
end

