-- ==== Sys2Proof/Safety.lean ====
section
/-! DEFINITION. The laws the spec says the blocks hold, in the terms the statements use: what a safe state of the
part is. -/

namespace Sys2Proof.Machine

/-- While a load runs both segments are DISABLED and no descriptor is held (R181). -/
def LoadQuiet (s : State) : Prop :=
  s.loader.state = .loading → ∀ x, (s.seg x).state = .disabled ∧ (s.seg x).queue = []

/-- The law of reference counts: held descriptors plus enabled poll entries that name the entry (R9). -/
def RefLaw (s : State) : Prop :=
  ∀ i, (s.target i).refs = queueRefs s.segA.queue i + queueRefs s.segB.queue i + pollRefs s.polls i

/-- Held descriptors stand in the queue of their target's segment, and what refers to an entry finds it non-VACANT;
during a load no poll entry is enabled, and each shadow poll names a written shadow target (R10, R29, R185). -/
def RouteLaw (s : State) : Prop :=
  (∀ x, ∀ d ∈ (s.seg x).queue, (s.target d.target).state ≠ .vacant ∧ (s.target d.target).cfg.segment = x) ∧
  (∀ i, (s.poll i).enabled = true → (s.target (s.poll i).cfg.target).state ≠ .vacant) ∧
  (s.loader.state = .loading → ∀ i, (s.poll i).enabled = false) ∧
  (∀ i c e, s.loader.shadow.polls.get i = some (c, e) → (s.loader.shadow.targets.get c.target).isSome = true)

/-- The descriptors held in one queue stand in slots of their own, numbered below 16 (R30, R63). -/
def SlotLaw (s : State) : Prop :=
  ∀ x, ((s.seg x).queue.map (·.slot)).Nodup ∧ ∀ d ∈ (s.seg x).queue, d.slot < 16

/-- Pages of the descriptors held in both queues. -/
def heldPages (s : State) : List (Fin 32) := (s.segA.queue ++ s.segB.queue).filterMap (·.page)

/-- The law of page holders: a page is lent exactly when one held descriptor has it, and the holder record names
that descriptor by its segment and slot (R63). -/
def PageLaw (s : State) : Prop :=
  (heldPages s).Nodup ∧
  (∀ p, lent s p = true ↔ p ∈ heldPages s) ∧
  (∀ p h, s.holders.get p = some h → ∃ d ∈ (s.seg h.seg).queue, d.page = some p ∧ d.slot = h.slot)

/-- No two non-VACANT target entries have both the same segment and the same address (R3). -/
def PlacesDistinct (s : State) : Prop :=
  ∀ i j, i ≠ j → (s.target i).state ≠ .vacant → (s.target j).state ≠ .vacant →
    (s.target i).cfg.segment = (s.target j).cfg.segment → (s.target i).cfg.address ≠ (s.target j).cfg.address

/-- The same among the written entries of the shadow tables (R3, R185). -/
def ShadowPlacesDistinct (s : State) : Prop :=
  ∀ i j c d, i ≠ j → s.loader.shadow.targets.get i = some c → s.loader.shadow.targets.get j = some d →
    c.segment = d.segment → c.address ≠ d.address

/-- During a load every live target entry is VACANT (R23, R187). -/
def LoadVacant (s : State) : Prop :=
  s.loader.state = .loading → ∀ i, (s.target i).state = .vacant

/-- The law of failure counts: below a nonzero threshold outside QUARANTINED, equal to it inside (R7). -/
def QuarantineLaw (s : State) : Prop :=
  ∀ i, let t := s.target i
    (t.state = .quarantined → t.cfg.threshold ≠ 0 ∧ t.failures = t.cfg.threshold.toNat) ∧
    (t.state ≠ .quarantined → t.cfg.threshold ≠ 0 → t.failures < t.cfg.threshold.toNat)

/-- HIGH and LOW hold a valid value, STALE holds none (R151). -/
def AlarmLaw (s : State) : Prop :=
  ∀ i, let p := s.poll i
    (p.alarm = .high ∨ p.alarm = .low → p.valid = true) ∧ (p.alarm = .stale → p.valid = false)

/-- An item stands at a point of the wires that its phase has (5.2), and in a hold only where it gives clock pulses (R81). -/
def Item.Stands (it : Item) : Prop :=
  (match it.phase with
    | .opening => True
    | .restart => it.point ≠ .free
    | .stop _ => it.point = .condition
    | .gap => it.point = .free
    | _ => it.point = .bits ∨ it.point = .ninth) ∧
  (it.hold.isSome = true → it.clocked = true)

/-- What one segment may have in flight by its state (R75, R108, R125, R130); a stop is never made for a fault
(R122). -/
def SegmentWork (s : State) (x : Seg) : Prop :=
  let g := s.seg x
  (∀ it, g.item = some it →
    (it.supplier = .loader ∧ x = .a ∧ s.loader.state = .loading ∧ s.loader.report = none ∧ g.state = .disabled) ∨
    (it.supplier ≠ .loader ∧ (g.state = .busy ∨ g.state = .pausingTxn))) ∧
  (∀ it o, g.item = some it → it.phase = .stop (.ended o) → o.isFault = false) ∧
  (∀ it, g.item = some it → it.Stands) ∧
  (∀ r, g.recovery = some r → g.state = .recovery ∨ g.state = .pausingRec) ∧
  (s.rstnLow = false → g.state = .busy ∨ g.state = .pausingTxn → g.item.isSome = true) ∧
  (s.rstnLow = false → g.state = .recovery ∨ g.state = .pausingRec → g.recovery.isSome = true)

/-- At most one transaction or recovery is under way on a segment, and only in the states that carry it
(R75, R108). -/
def WorkLaw (s : State) : Prop := ∀ x, SegmentWork s x

/-- Whether the head of a segment's queue is ACTIVE. -/
def headActive (g : Segment) : Bool :=
  match g.queue with
  | d :: _ => decide (d.state = .active)
  | [] => false

/-- A DISABLED segment has an empty queue (R108). -/
def DisabledEmpty (s : State) : Prop := ∀ x, (s.seg x).state = .disabled → (s.seg x).queue = []

/-- ACTIVE and FINISHED occur only at the head of a queue (R31). -/
def HeadLaw (s : State) : Prop :=
  ∀ x, ∀ d ∈ (s.seg x).queue.tail, d.state = .queued ∨ d.state = .cancelled ∨ d.state = .expired

/-- An ACTIVE head has either its item in flight or the engine's report of it waiting, and nothing else has either
(R32, R33). -/
def ActiveLaw (s : State) : Prop :=
  ∀ x, let g := s.seg x
    (g.headReport.isSome = true → headActive g = true) ∧
    (∀ it, g.item = some it → it.supplier = .queue → headActive g = true ∧ g.headReport = none) ∧
    (s.rstnLow = false → headActive g = true →
      g.headReport.isSome = true ∨ ∃ it, g.item = some it ∧ it.supplier = .queue)

/-- Attempts, write count and read count of Tables 3-1 and 5-1. -/
def CountsInRange (attempts writeCount readCount : Nat) : Prop := attempts ≤ 8 ∧ writeCount ≤ 64 ∧ readCount ≤ 64

/-- A held descriptor has lengths of its kind's row of Table 2-2, and once FINISHED the counts of Table 3-1. -/
def Descriptor.InRange (d : Descriptor) : Prop :=
  d.kind.lengthsOk d.writeLen d.readLen = true ∧ ∀ o a w r, d.state = .finished o a w r → CountsInRange a w r

/-- An item in flight: lengths of its kind's row, attempts 1 to 1 plus the latched retry limit, and counts that its phase
still has to raise below what it has to send or receive (R66, R85, R89, R90, R94, Table 5-1). -/
def Item.InRange (it : Item) : Prop :=
  (∀ kind present index w r page, it.form = .descriptor kind present index w r page → kind.lengthsOk w r = true) ∧
  (1 ≤ it.attempts ∧ it.attempts ≤ 1 + it.retryLimit.toNat) ∧ it.writeCount ≤ 64 ∧ it.readCount ≤ 64 ∧
  match it.phase with
  | .opening => it.writeCount = 0 ∧ it.readCount = 0
  | .index _ => it.writeCount = 0 ∧ it.readCount = 0
  | .dataOut => it.writeCount < it.plan.out ∧ it.readCount = 0
  | .restart => it.readCount = 0
  | .lengthByte => it.readCount = 0
  | .dataIn total => total ≤ 64 ∧ it.readCount ≤ total ∧ (it.form.page.isSome = true → it.point ≠ .ninth → it.readCount < total)
  | .stop .retry => it.writeCount = 0 ∧ it.readCount = 0 ∧ it.attempts ≤ it.retryLimit.toNat
  | .gap => it.writeCount = 0 ∧ it.readCount = 0 ∧ it.attempts ≤ it.retryLimit.toNat
  | .stop (.ended _) => True

/-- A recovery: pulse count 0 to 9, below 9 while a pulse is still to be given (R125, R126). -/
def Recovery.InRange (r : Recovery) : Prop := r.pulses ≤ 9 ∧ (r.stage ≠ .stop → r.pulses < 9)

/-- Number of written entries of the shadow tables. -/
def Shadow.written (sh : Shadow) : Nat :=
  (if sh.segA.isSome then 1 else 0) + (if sh.segB.isSome then 1 else 0) + sh.targets.toList.countP (·.isSome) +
    sh.polls.toList.countP (·.isSome) + (if sh.events.isSome then 1 else 0)

/-- Every count stays in the range its table gives (R9, R30, R48, R116, R159, R180, Tables 1-6, 3-1, 5-1 and 8-2); while a
load runs, good records counts the written shadow entries (R184). -/
def RangeLaw (s : State) : Prop :=
  (s.ring.length ≤ 32 ∧ ∀ c ∈ s.ring, CountsInRange c.attempts c.writeCount c.readCount) ∧
  (∀ x, (s.seg x).queue.length ≤ 16 ∧ (s.seg x).streak ≤ 8 ∧ (s.seg x).resolver.cursor ≤ 32 ∧
    (∀ d ∈ (s.seg x).queue, d.InRange) ∧ (∀ it, (s.seg x).item = some it → it.InRange) ∧
    (∀ r, (s.seg x).headReport = some r → CountsInRange r.attempts r.writeCount r.readCount) ∧
    (∀ r, (s.seg x).recovery = some r → r.InRange)) ∧
  (∀ i, (s.target i).failures ≤ 15 ∧ (s.target i).refs ≤ 40) ∧
  (∀ i, (s.poll i).misses ≤ 15 ∧ (s.poll i).overruns ≤ 255) ∧
  (s.loader.offset ≤ 4095 ∧ s.loader.good ≤ 255 ∧
    (s.loader.state = .loading → s.loader.good = s.loader.shadow.written))

/-- The watermark stays in 1..32, in the shadow settings too (R176, R185). -/
def WatermarkLaw (s : State) : Prop :=
  (1 ≤ s.watermark.toNat ∧ s.watermark.toNat ≤ 32) ∧
  ∀ e, s.loader.shadow.events = some e → 1 ≤ e.watermark.toNat ∧ e.watermark.toNat ≤ 32

/-- A resolver that is not watching is IDLE with its sweep record clear and no read outstanding (R159). -/
def RestLaw (s : State) : Prop :=
  ∀ x, (s.seg x).watching = false →
    (s.seg x).resolver.state = .idle ∧ (s.seg x).resolver.cursor = 0 ∧ (s.seg x).resolver.found = false ∧
    (s.seg x).resolver.outstanding = false

/-- A watching IDLE resolver never stands over a low line, and no sweep stands with nothing left to read and no
read outstanding (R160, R164). -/
def SweepLaw (s : State) : Prop :=
  s.rstnLow = false → ∀ x,
    ((s.seg x).watching = true → (s.seg x).resolver.state = .idle → (s.seg x).alertLow = false) ∧
    ((s.seg x).resolver.inSweep = true → (s.seg x).resolver.outstanding = false →
      (nextQualifying s x (s.seg x).resolver.cursor).isSome = true)

/-- Bits that hold no field stay 0: in the latched flags, in the mask (and the shadow mask), and in every staging
register (R169, R175, R194). -/
def ReservedLaw (s : State) : Prop :=
  s.latched &&& ~~~ latchedBits = 0 ∧ s.mask &&& ~~~ causeBits = 0 ∧
  (∀ e, s.loader.shadow.events = some e → e.mask &&& ~~~ causeBits = 0) ∧
  ∀ addr, fieldBits addr ≠ 0 → window s addr &&& ~~~ fieldBits addr = 0

/-- The bytes of the Page Buffer are in their canonical form (R73). -/
def MemoryLaw (s : State) : Prop := s.mem.wf = true

end Sys2Proof.Machine
end

