-- ==== Sys2Proof/Certificates/Slice0/Obligations.lean ====
section
/-! DEFINITION. The statements for the provers, and the words they are put in. -/

namespace Sys2Proof.Machine

/-- The argument that names a segment: 0 for A and 1 for B (Table 12-2). -/
def segArg : Seg → Byte
  | .a => 0
  | .b => 1

/-- RSTn is high and no load runs, so that a command passes the first check of R193. -/
def HostReady (s : State) : Prop := s.rstnLow = false ∧ s.loader.state ≠ .loading

/-- A state with the word and the result of a command answered DONE in CMD and CMDRES (R193). -/
def State.done (t : State) (code arg : Byte) : State :=
  { t with cmd := wordOf code arg, cmdres := wordOf code 0x00 }

/-- A state after a refused command: the word, the result code, and REFUSED (R193, Table 12-3). -/
def State.refusal (s : State) (code arg result : Byte) : State :=
  { s with cmd := wordOf code arg, cmdres := wordOf code result, latched := s.latched ||| 0x0001 }

/-- The lengths that a kind's row of Table 2-2 asks for. -/
def LengthRow : Kind → Nat → Nat → Prop
  | .probe, w, r => w = 0 ∧ r = 0
  | .write, w, r => (1 ≤ w ∧ w ≤ 64) ∧ r = 0
  | .read, w, r => w = 0 ∧ 1 ≤ r ∧ r ≤ 64
  | .writeRead, w, r => (1 ≤ w ∧ w ≤ 64) ∧ 1 ≤ r ∧ r ≤ 64
  | .blockRead, w, r => w = 0 ∧ 1 ≤ r ∧ r ≤ 64

/-- The record after a happening that leads to a phase: at the point the phase begins at, with no hold (5.2, 5.3). -/
def Item.toPhase (it : Item) (ph : Phase) (now : Tick) : Item :=
  { it with phase := ph, second := it.second || decide (ph = .restart), point := ph.start, since := now, hold := none }

/-- A segment whose engine has sent a presence report, where its item is not detached (R5, R100). -/
def Segment.presenceSent (g : Segment) (it : Item) : Segment :=
  match it.detached, it.target with
  | false, some i => { g with tableReports := g.tableReports ++
      [{ target := i, ofDescriptor := decide (it.supplier = .queue), dropped := false, body := .presence }] }
  | _, _ => g

/-- Detaching an entry on a segment: its poll or alert read in flight is marked, and what a poll or alert read has sent to
the Target Table but is not yet taken is dropped (R19, R20); a descriptor's report stays (R33; log entry 5). -/
def Segment.detached (g : Segment) (i : Fin 32) : Segment :=
  { g with
    item := g.item.map fun it =>
      if it.supplier ≠ .queue ∧ it.supplier ≠ .loader ∧ it.target = some i then { it with detached := true } else it
    tableReports := g.tableReports.map fun r =>
      if r.target = i ∧ r.ofDescriptor = false then { r with dropped := true } else r }

/-- A resolver that does not watch, or after a reset: IDLE, cursor 0, record clear, nothing outstanding, no holdoff (R167,
R168); that its idle holdoff fields are 0 is log entry 22. -/
def resolverAtRest : Resolver :=
  { state := .idle, cursor := 0, found := false, outstanding := false, holdStart := 0, holdLen := 0 }

/-- A segment that has nothing of its work left, in a state, with its configuration and ALERT pin kept (R46, R102,
R168). -/
def Segment.cleared (g : Segment) (st : SegState) : Segment :=
  { state := st, cfg := g.cfg, streak := 0, queue := [], item := none, recovery := none, resolver := resolverAtRest
    alertLow := g.alertLow, headReport := none, tableReports := [], pollReports := [], alertResults := [] }

/-- A segment after power-on reset or RELOAD, its ALERT pin at a level: DISABLED, with the configuration of Table 6-1 and no
work (R119, R168). -/
def segmentAtPowerOn (low : Bool) : Segment :=
  { state := .disabled, streak := 0, queue := [], item := none, recovery := none, resolver := resolverAtRest
    cfg := { busFree := 35, stretch := 25, retryGap := 2, pollShare := 4, alertEnable := false, holdoff := 50 }
    alertLow := low, headReport := none, tableReports := [], pollReports := [], alertResults := [] }

/-- A segment whose resolver stops watching: IDLE, cursor 0, record clear, nothing outstanding. The result of a read not yet
taken is dropped: one that waits for the resolver goes, and a waiting report of an alert read will send it none; every other
report stays as it is (R167). -/
def Segment.unwatched (g : Segment) : Segment :=
  { g with
    resolver := resolverAtRest
    alertResults := []
    tableReports := g.tableReports.map fun r =>
      match r.body with
      | .alertOutcome o v _ => { r with body := .alertOutcome o v false }
      | .presence => r
      | .outcome _ => r }

/-- A target entry after power-on reset, RELOAD or TGT_CLEAR: VACANT, every field 0 (R17, R21). -/
def targetAtPowerOn : Target :=
  { cfg := { segment := .a, address := 0, width := 0, speed := .standard, retryLimit := 0, threshold := 0
             alertCapable := false, alertIndex := 0, alertMask := 0 }
    state := .vacant, failures := 0, refs := 0, alerting := false, alertValue := 0, alertValid := false, lastSeen := 0 }

/-- A poll entry after power-on reset or RELOAD: disabled, every field 0, alarm state NORMAL, read mark NONE (R158). The
latest grant and what an advance found are the model's own fields (log entry 22). -/
def pollAtPowerOn : Poll :=
  { cfg := { target := 0, register := 0, width := 0, order := .firstHigh, signed := false, period := 0, phase := 0
             mode := .none, high := 0, low := 0, hysteresis := 0, staleLimit := 0, notify := false }
    enabled := false, nextDue := 0, lastValue := 0, valid := false, alarm := .normal, misses := 0, overruns := 0
    flag := false, mark := .none, latestGrant := 0, owed := .nothing }

/-- Shadow tables with no entry written, as when a load begins (11.3). -/
def shadowUnwritten : Shadow :=
  { segA := none, segB := none, targets := Vector.replicate 32 none, polls := Vector.replicate 24 none, events := none }

/-- The number of enabled poll entries that name a target entry (R9). -/
def enabledOn (polls : Vector Poll 24) (i : Fin 32) : Nat :=
  polls.toList.countP fun p => p.enabled && decide (p.cfg.target = i)

/-- What ABORT does to a held descriptor (R39, R40, R41). -/
def cancelled (d : Descriptor) : Descriptor :=
  if d.state = .queued then { d with state := .cancelled } else if d.state = .active then { d with cut := true } else d

/-- The entry that Table 1-8 makes of a final outcome, short of quarantine. -/
def Target.outcome (t : Target) (o : TxOutcome) : Target :=
  { t with
    failures := if o = .ok then 0
                else if o = .nackAddress ∨ o = .nackData ∨ o = .stretchTimeout ∨ o = .blockLengthBad then min (t.failures + 1) 15
                else t.failures
    state := if o = .nackAddress ∧ (t.state = .unknown ∨ t.state = .present) then .missing else t.state }

/-- A final outcome on entry `i`: nothing on a QUARANTINED entry (R8), nor, by log entry 8, on a VACANT one; QUARANTINED and
the QUARANTINE cause where a raised count equals a nonzero threshold (R7); otherwise Table 1-8. -/
def State.withOutcome (s : State) (i : Fin 32) (o : TxOutcome) : State :=
  let t := s.target i
  let u := t.outcome o
  if t.state = .vacant ∨ t.state = .quarantined then s
  else if t.cfg.threshold ≠ 0 ∧ u.failures = t.cfg.threshold.toNat ∧
      (o = .nackAddress ∨ o = .nackData ∨ o = .stretchTimeout ∨ o = .blockLengthBad) then
    { s with targets := vset s.targets i { u with state := TgtState.quarantined }, latched := s.latched ||| 0x0010 }
  else { s with targets := vset s.targets i u }

/-- A miss: the count rises, saturating at 15, and at the stale limit an entry not yet STALE becomes STALE with valid
clear, setting its flag where its notify is yes (R151, R156). -/
def Poll.missed (p : Poll) : Poll :=
  if p.alarm ≠ .stale ∧ p.cfg.staleLimit.toNat ≤ min (p.misses + 1) 15 then
    { p with misses := min (p.misses + 1) 15, alarm := .stale, valid := false, flag := p.flag || p.cfg.notify }
  else { p with misses := min (p.misses + 1) 15 }

/-- Segment state when a transaction ends with an outcome that is no fault (R96). -/
def stateAfterWork : SegState → SegState
  | .busy => .ready
  | .pausingTxn => .paused
  | st => st

/-- Segment state when a transaction ends with a fault (R96, R122). -/
def stateAfterFault : SegState → SegState
  | .busy => .recovery
  | .pausingTxn => .pausingRec
  | st => st

/-- The work-item record that a grant makes from a target entry: latched fields, attempt 1 open, counts 0 and marks clear
(R117, R89, Table 5-1). -/
def recordOf (t : Target) (i : Fin 32) (supplier : Supplier) (form : Form) (now : Tick) : Item :=
  { supplier := supplier, target := some i, address := t.cfg.address, speed := t.cfg.speed, width := t.cfg.width
    retryLimit := t.cfg.retryLimit, form := form, attempts := 1, writeCount := 0, readCount := 0, phase := .opening
    cut := false, cutLate := false, detached := false, bytes := [], second := false, point := .free, since := now
    hold := none }

/-- The record of the loader's read of the piece at an offset, as it begins (R182). -/
def loaderRecord (cfgadr : BitVec 2) (offset : Nat) (now : Tick) : Item :=
  { supplier := .loader, target := none, address := 0x50 + cfgadr.setWidth 7, speed := .standard, width := 2
    retryLimit := 2, form := .loaderRead (BitVec.ofNat 16 offset), attempts := 1, writeCount := 0, readCount := 0
    phase := .opening, cut := false, cutLate := false, detached := false, bytes := [], second := false, point := .free
    since := now, hold := none }

/-- A loader as a load begins (R180, R181, R189). -/
def loaderBegun : Loader :=
  { state := .loading, reason := .none, offset := 0, good := 0, bytes := [], shadow := shadowUnwritten, report := none }

/-- The whole part after power-on reset with the straps sampled, before a load: every register, table, queue and flag at its
power-on value (R21, R45, R60, R73, R103, R119, R121, R158, R168, R178,
R181, R193, R194). The ALERT pins are the board's, and the
commands and wires that wait are the model's (log entries 1 and 22), as are shadow tables empty without a load (log entry
27). -/
def partAtPowerOn (cfgen : Bool) (cfgadr fsel : BitVec 2) (lowA lowB : Bool) (pending : List Instr)
    (wires : List (List (Seg × Wire))) : State :=
  { rstnLow := false, cfgen := cfgen, cfgadr := cfgadr, fsel := fsel, cmd := 0, cmdres := 0
    ds := Vector.replicate 5 0, ts := Vector.replicate 6 0, ps := Vector.replicate 8 0, ss := Vector.replicate 3 0
    ptrPage := 0, ptrOffset := 0, capture := 0, lastRead := 0, targets := Vector.replicate 32 targetAtPowerOn, mem := []
    holders := Vector.replicate 32 none, segA := segmentAtPowerOn lowA, segB := segmentAtPowerOn lowB, ring := []
    polls := Vector.replicate 24 pollAtPowerOn, grants := 0, latched := 0, mask := 0, clearMode := .writeOne
    watermark := 1, tick := 0, pending := pending, wires := wires
    loader := { loaderBegun with state := .skipped } }

/-- The recovery record as a recovery begins: pulse count 0, SCLx just released (R125, R128). -/
def recoveryBegun (now : Tick) (stretch : Byte) : Recovery :=
  { pulses := 0, stage := .opening, hold := some { since := now, limit := stretch } }

/-- The number a coded field holds for each of its values (Table 12-10). -/
def Kind.number : Kind → Nat
  | .probe => 0
  | .write => 1
  | .read => 2
  | .writeRead => 3
  | .blockRead => 4

/-- The number of an outcome (Table 12-10). -/
def TxOutcome.number : TxOutcome → Nat
  | .ok => 0
  | .nackAddress => 1
  | .nackData => 2
  | .stretchTimeout => 3
  | .busFault => 4
  | .blockLengthBad => 5
  | .aborted => 6
  | .cancelled => 7
  | .expired => 8
  | .targetQuarantined => 9

/-- The number of a target entry state (Table 12-10). -/
def TgtState.number : TgtState → Nat
  | .vacant => 0
  | .unknown => 1
  | .present => 2
  | .missing => 3
  | .quarantined => 4

/-- The number of a compare mode (Table 12-10). -/
def CompareMode.number : CompareMode → Nat
  | .none => 0
  | .above => 1
  | .below => 2
  | .outside => 3
  | .change => 4

/-- The number of an alarm state (Table 12-10). -/
def AlarmState.number : AlarmState → Nat
  | .normal => 0
  | .high => 1
  | .low => 2
  | .stale => 3

/-- The number of a segment state (Table 12-10); PAUSING shows alike over a transaction and over a recovery (R196). -/
def SegState.number : SegState → Nat
  | .disabled => 0
  | .ready => 1
  | .busy => 2
  | .pausingTxn => 3
  | .pausingRec => 3
  | .paused => 4
  | .recovery => 5
  | .halted => 6

/-- The number of a resolver state (Table 12-10). -/
def ResState.number : ResState → Nat
  | .idle => 0
  | .pending => 1
  | .sweeping => 2
  | .holdoff => 3

/-- The number of a load state (Table 12-10). -/
def LoadState.number : LoadState → Nat
  | .loading => 1
  | .done => 2
  | .failed => 3
  | .skipped => 4

/-- The number of a load reason (Table 12-10). -/
def LoadReason.number : LoadReason → Nat
  | .none => 0
  | .memoryAbsent => 1
  | .bus => 2
  | .badType => 3
  | .badLength => 4
  | .badField => 5
  | .duplicate => 6
  | .undefinedTarget => 7
  | .overlong => 8
  | .checksum => 9

/-- The bits of the word at a window address that hold a field of a staging register: Table 12-4 at 11H..15H, 12-5 at
20H..25H, 12-6 at 28H..2FH, 12-7 at 30H..32H, none elsewhere. -/
def stagedBits (addr : BitVec 6) : Word :=
  match addr.toNat with
  | 0x12 => 0xF81F
  | 0x14 => 0x7F7F
  | 0x20 => 0xFFFE
  | 0x21 => 0xF0FF
  | 0x23 => 0xFFFE
  | 0x24 => 0x00FF
  | 0x28 => 0xFF1F
  | 0x2E => 0xFFF1
  | 0x31 => 0xFF01
  | 0x32 => 0x00FF
  | n => if n ∈ [0x11, 0x13, 0x15, 0x22, 0x25, 0x29, 0x2A, 0x2B, 0x2C, 0x2D, 0x2F, 0x30] then 0xFFFF else 0x0000

/-- Whether an index fits an index width (R2). -/
def IndexFits (width : BitVec 2) (index : Word) : Prop :=
  (width = 0 → index = 0) ∧ (width = 1 → index.toNat ≤ 0xFF)

/-- The conditions of R2 on configured target fields, with the address as eight bits. -/
def TargetLegal (address : Byte) (width : BitVec 2) (capable : Bool) (index : Word) (mask : Byte) : Prop :=
  0x08 ≤ address.toNat ∧ address.toNat ≤ 0x77 ∧ width ≠ 3 ∧ (capable = true → IndexFits width index ∧ mask ≠ 0)

/-- The target a sweep reads next: the lowest index at or above the cursor that qualifies: non-VACANT, on the segment, alert
capable, not QUARANTINED (R161). -/
def NextAlert (s : State) (x : Seg) (i : Fin 32) : Prop :=
  let r := (s.seg x).resolver
  let reads := fun (j : Fin 32) => r.cursor ≤ j.val ∧ (s.target j).state ≠ .vacant ∧ (s.target j).cfg.segment = x ∧
    (s.target j).cfg.alertCapable = true ∧ (s.target j).state ≠ .quarantined
  (r.state = .pending ∨ r.state = .sweeping) ∧ r.outstanding = false ∧ reads i ∧ ∀ j, reads j → i ≤ j

/-- The poll an arbiter would grant: on the segment and due, of the longest elapsed time since its next-due tick, and the
lowest index among the equally early. Due is enabled on a segment not DISABLED, with an elapsed time below 65536, on a target
not QUARANTINED (R115, R145); that a grant leaves an entry of period 0, never written, due is the model's choice (log entry
26). -/
def NextPoll (s : State) (x : Seg) (i : Fin 24) : Prop :=
  let age := fun (j : Fin 24) => (s.tick - (s.poll j).nextDue).toNat
  let candidate := fun (j : Fin 24) =>
    let t := s.target (s.poll j).cfg.target
    (s.poll j).enabled = true ∧ t.cfg.segment = x ∧ (s.seg x).state ≠ .disabled ∧ age j < 65536 ∧ t.state ≠ .quarantined
  candidate i ∧ ∀ j, candidate j → age j < age i ∨ (age j = age i ∧ i ≤ j)

/-- What a segment's engine hands out at the end of a transaction, by supplier (R96, R100, Table 5-6). -/
def Segment.reported (g : Segment) (it : Item) (o : TxOutcome) : Segment :=
  let told := fun (h : Segment) (body : ReportBody) =>
    match it.target with
    | some i => { h with tableReports := h.tableReports ++
        [{ target := i, ofDescriptor := decide (it.supplier = .queue), dropped := false, body := body }] }
    | none => h
  let h := { g with item := none }
  match it.supplier, it.detached with
  | .queue, _ => told { h with headReport := some { outcome := o, attempts := it.attempts, writeCount := it.writeCount, readCount := it.readCount } } (.outcome o)
  | .poll entry grant, false =>
    told { h with pollReports := h.pollReports ++ [{ entry := entry, grant := grant, outcome := o, bytes := it.bytes }] } (.outcome o)
  | .poll _ _, true => h
  | .alert, false => told h (.alertOutcome o (it.bytes.headD 0) true)
  | .alert, true => { h with alertResults := h.alertResults ++ [.nothing] }
  | .loader, _ => h

end Sys2Proof.Machine

open Sys2Proof Sys2Proof.Machine

/-! ### The queue of commands and the command port -/

/-- A step runs the command at the front of the queue on the state with the queue's rest. That the block idles on an empty
queue is the model's choice (log entry 16). -/
def Obligations.StepRunsFrontCommand : Prop :=
  (∀ (c : Instr) (rest : List Instr) (s : State), s.pending = c :: rest → step s = exec c { s with pending := rest }) ∧
  ∀ s : State, s.pending = [] → step s = .next s

/-- Every term that is a command of its row runs to a next state in every state and leaves the waiting commands alone; a
term that is no command of its row is refused by name, which is the model's choice (log entry 4). -/
def Obligations.WellFormedCommandsComplete : Prop :=
  ∀ (c : Instr) (s : State),
    (c.wf = true → ∃ t, exec c s = .next t ∧ t.pending = s.pending) ∧
    (c.wf = false → exec c s = .refused .illFormed)

/-- Every CMD word spells exactly one well-formed command, and every well-formed command row is what its word spells; a
word of 16 bits given to the part as its next command, and a host write of the word to CMD with no command waiting, run that
command in the next step (R193, Table 12-2; that a word of 16 bits is a CMD word, and that a write waits in the queue of
commands, are the model's, log entry 17). -/
def Obligations.CommandWordsRoundTrip : Prop :=
  (∀ w : Word, (commandOf w).wf = true ∧ (commandOf w).cmdWord = some w ∧ hostWrite 0x02 w = commandOf w ∧
    decodeTableWord 16 w.toNat = some (commandOf w)) ∧
  (∀ (c : Instr) (w : Word), c.wf = true → c.cmdWord = some w → commandOf w = c) ∧
  ∀ (w : Word) (s : State), step (s.withFetchWord 16 w.toNat) = exec (commandOf w) s ∧
    (s.pending = [] → step (s.hostWrites 0x02 w) = exec (commandOf w) s)

/-- While a load runs every CMD write is refused with LOADING, whatever its code and argument. Otherwise a code that is
not in Table 12-2 is answered BAD_COMMAND, and an argument outside the range of Table 12-2 is answered BAD_ENTRY (R181, R193). -/
def Obligations.LoadingAndBadWordsAreRefused : Prop :=
  (∀ (w : Word) (s : State), s.rstnLow = false → s.loader.state = .loading →
    exec (commandOf w) s = .next (s.refusal (codeOf w) (argOf w) 0x01)) ∧
  (∀ code : Byte, let n := code.toNat
    namesCommand code = true ↔
      (1 ≤ n ∧ n ≤ 0x0A) ∨ (0x10 ≤ n ∧ n ≤ 0x14) ∨ (0x20 ≤ n ∧ n ≤ 0x23) ∨ n = 0x30 ∨ n = 0x31) ∧
  ∀ s : State, HostReady s →
    (∀ w : Word, namesCommand (codeOf w) = false →
      exec (.badCommand w) s = .next (s.refusal (codeOf w) (argOf w) 0x02)) ∧
    (∀ arg : Byte, 2 ≤ arg.toNat →
      exec (.abort arg []) s = .next (s.refusal 0x03 arg 0x03) ∧
      exec (.pause arg) s = .next (s.refusal 0x04 arg 0x03) ∧
      exec (.resume arg) s = .next (s.refusal 0x05 arg 0x03) ∧
      exec (.segEnable arg) s = .next (s.refusal 0x06 arg 0x03) ∧
      exec (.segDisable arg) s = .next (s.refusal 0x07 arg 0x03) ∧
      exec (.segWrite arg) s = .next (s.refusal 0x08 arg 0x03) ∧
      exec (.segRead arg) s = .next (s.refusal 0x09 arg 0x03) ∧
      exec (.recover arg) s = .next (s.refusal 0x0A arg 0x03)) ∧
    (∀ arg : Byte, 32 ≤ arg.toNat →
      exec (.tgtWrite arg) s = .next (s.refusal 0x10 arg 0x03) ∧
      exec (.tgtRead arg) s = .next (s.refusal 0x11 arg 0x03) ∧
      exec (.tgtClear arg) s = .next (s.refusal 0x12 arg 0x03) ∧
      exec (.tgtRelease arg) s = .next (s.refusal 0x13 arg 0x03) ∧
      exec (.ackAlert arg) s = .next (s.refusal 0x14 arg 0x03)) ∧
    (∀ arg : Byte, 24 ≤ arg.toNat →
      exec (.pollWrite arg) s = .next (s.refusal 0x20 arg 0x03) ∧
      exec (.pollRead arg) s = .next (s.refusal 0x21 arg 0x03) ∧
      exec (.pollEnable arg) s = .next (s.refusal 0x22 arg 0x03) ∧
      exec (.pollDisable arg) s = .next (s.refusal 0x23 arg 0x03))

/-- Whatever CMD word is written, CMD keeps it and CMDRES carries its code; a result other than DONE leaves everything
else as it was but for REFUSED (R193, R13). -/
def Obligations.RefusedCommandChangesOnlyThePort : Prop :=
  ∀ (w : Word) (s t : State), s.rstnLow = false → exec (commandOf w) s = .next t →
    t.cmd = w ∧ codeOf t.cmdres = codeOf w ∧
    (argOf t.cmdres ≠ 0 → t = s.refusal (codeOf w) (argOf w) (argOf t.cmdres))

/-! ### What changes a register, the ring and the page bytes, over all commands -/

/-- The tick, the capture register, the page pointer, the strap pins, the event mask and the staging registers change
only by the commands the rules name for each (R120, R121, R67, R181, R175, R194). -/
def Obligations.RegistersChangeOnlyByTheirCommands : Prop :=
  ∀ (c : Instr) (s t : State), exec c s = .next t → (∀ cfgen cfgadr fsel, c ≠ .powerOnReset cfgen cfgadr fsel) →
    (c ≠ .tickAdvance → t.tick = s.tick ∧ t.wires = s.wires) ∧
    (c ≠ .tickLoRead → t.capture = s.capture) ∧
    ((∀ w, c ≠ .pagePtrWrite w) → t.ptrPage = s.ptrPage) ∧
    ((∀ w, c ≠ .pagePtrWrite w) → c ≠ .pageDataRead → (∀ w, c ≠ .pageDataWrite w) → t.ptrOffset = s.ptrOffset) ∧
    (t.cfgen = s.cfgen ∧ t.cfgadr = s.cfgadr ∧ t.fsel = s.fsel) ∧
    ((∀ w, c ≠ .evMaskWrite w) → (∀ a, c ≠ .reload a) → c ≠ .loaderReadReport → t.mask = s.mask) ∧
    ((∀ w, c ≠ .evCtrlWrite w) → (∀ a, c ≠ .reload a) → c ≠ .loaderReadReport →
      t.clearMode = s.clearMode ∧ t.watermark = s.watermark) ∧
    ((∀ a w, c ≠ .registerWrite a w) → t.ds = s.ds ∧
      ((∀ a, c ≠ .tgtRead a) → t.ts = s.ts) ∧ ((∀ a, c ≠ .pollRead a) → t.ps = s.ps) ∧
      ((∀ a, c ≠ .segRead a) → t.ss = s.ss))

/-- The ring changes in three ways only: a RETIREMENT puts one entry, stamped with the tick, behind the others of a ring
with room; a POP takes the oldest; a reset empties it (R48, R50, R53, R61). -/
def Obligations.RingChangesOnlyByRetirementPopAndReset : Prop :=
  ∀ (c : Instr) (s t : State), exec c s = .next t →
    t.ring = s.ring ∨
    (∃ x e, c = .retirement x ∧ s.ring.length < 32 ∧ t.ring = s.ring ++ [e] ∧ e.stamp = s.tick.setWidth 16) ∨
    (∃ arg e, c = .pop arg ∧ s.ring = e :: t.ring) ∨
    (t.ring = [] ∧ ((∃ arg, c = .softReset arg) ∨ (∃ arg, c = .reload arg) ∨
      ∃ cfgen cfgadr fsel, c = .powerOnReset cfgen cfgadr fsel))

/-- A page byte changes only by a host write at the pointer while the page is the host's, by an engine's store at the
next offset of the page of its descriptor, or by power-on reset (R63, R66, R69, R73). That an offset past 63, which no run
reaches, wraps in its page is the model's choice (log entry 21). -/
def Obligations.PageBytesChangeOnlyByTheirWriters : Prop :=
  ∀ (c : Instr) (s t : State) (a : Nat), s.mem.wf = true → exec c s = .next t → t.mem.read a ≠ s.mem.read a →
    (∃ w, c = .pageDataWrite w ∧ s.holders.get (idx32 s.ptrPage.toNat) = none ∧
      a = s.ptrPage.toNat * 64 + s.ptrOffset.toNat ∧ t.mem.read a = loByte w) ∨
    (∃ x b it kind present index w r p, c = .pageStore x b ∧ (s.seg x).item = some it ∧
      it.form = .descriptor kind present index w r (some p) ∧ a = p.val * 64 + it.readCount % 64 ∧ t.mem.read a = b) ∨
    (∃ cfgen cfgadr fsel, c = .powerOnReset cfgen cfgadr fsel ∧ t.mem.read a = 0)

/-- A target entry whose reference count is above zero is not VACANT, and no command changes its configured fields while
the count stays above zero (R10). -/
def Obligations.ReferencedTargetKeepsItsPlace : Prop :=
  ∀ s : State, LoadQuiet s → RefLaw s → RouteLaw s →
    (∀ i, 0 < (s.target i).refs → (s.target i).state ≠ .vacant) ∧
    ∀ (c : Instr) (t : State), exec c s = .next t →
      ∀ i, 0 < (s.target i).refs → 0 < (t.target i).refs → (t.target i).cfg = (s.target i).cfg

/-! ### Invariants every step keeps -/

/-- Every step keeps the law of reference counts, with what it rests on: a load runs beside empty queues, held
descriptors stand in the queue of their target's segment, and what refers to an entry finds it non-VACANT (R9, R10, R29,
R181). -/
def Obligations.StepKeepsReferenceLaws : Prop :=
  ∀ s t : State, LoadQuiet s ∧ RefLaw s ∧ RouteLaw s → step s = .next t → LoadQuiet t ∧ RefLaw t ∧ RouteLaw t

/-- Every step keeps the law of page holders, and each held descriptor in a slot of its own (R63, R29, R30). -/
def Obligations.StepKeepsPageLaws : Prop :=
  ∀ s t : State, PageLaw s ∧ SlotLaw s → step s = .next t → PageLaw t ∧ SlotLaw t

/-- Every step keeps the places of non-VACANT targets distinct, in the live table and in the shadow tables (R3, R185). -/
def Obligations.StepKeepsTargetPlacesDistinct : Prop :=
  ∀ s t : State, PlacesDistinct s ∧ ShadowPlacesDistinct s ∧ LoadVacant s → step s = .next t →
    PlacesDistinct t ∧ ShadowPlacesDistinct t ∧ LoadVacant t

/-- Every step keeps the law of failure counts, and the tie of alarm states to valid values (R7, R8, R151, R152). -/
def Obligations.StepKeepsQuarantineAndAlarmLaws : Prop :=
  ∀ s t : State, QuarantineLaw s ∧ AlarmLaw s → step s = .next t → QuarantineLaw t ∧ AlarmLaw t

/-- Every step keeps at most one transaction or recovery on a segment, in the states that carry it, at a point of the wires
that its phase has and in a hold only where the clock is given, keeps an ACTIVE head together with its item or its report, ACTIVE and FINISHED at the head of a queue, and a DISABLED segment's queue empty
(R75, R81, R108, R31, R32, R33, R130). -/
def Obligations.StepKeepsWorkLaws : Prop :=
  ∀ s t : State, LoadQuiet s ∧ WorkLaw s ∧ HeadLaw s ∧ ActiveLaw s ∧ DisabledEmpty s → step s = .next t →
    LoadQuiet t ∧ WorkLaw t ∧ HeadLaw t ∧ ActiveLaw t ∧ DisabledEmpty t

/-- Every step keeps in the range its table gives: ring count, queue counts, streaks, cursors; failure and reference counts;
miss and overrun counts; attempts, write count and read count of the item in flight, of a waiting report, of a FINISHED
descriptor and of a completion entry; the pulse count; record offset and good records. It keeps the watermark in 1..32, and
the bits that hold no field at 0 in the latched flags, the mask and every staging register. The laws of references, from
which the bound of 40 follows, go along (R9, R30, R48, R49, R89, R116, R125, R169, R175, R176, R180, R194, Tables 1-6, 3-1,
5-1 and 8-2). -/
def Obligations.StepKeepsRangesAndReservedBits : Prop :=
  ∀ s t : State, (LoadQuiet s ∧ RefLaw s ∧ RouteLaw s) ∧ RangeLaw s ∧ WatermarkLaw s ∧ ReservedLaw s → step s = .next t →
    (LoadQuiet t ∧ RefLaw t ∧ RouteLaw t) ∧ RangeLaw t ∧ WatermarkLaw t ∧ ReservedLaw t

/-- Every step keeps the resolvers' laws: one that does not watch is at rest, a watching IDLE one never stands over a low
line, and a sweep stands only while a target is left to read or a read is outstanding (R159, R160, R164, R167). -/
def Obligations.StepKeepsSweepLaws : Prop :=
  ∀ s t : State, LoadQuiet s ∧ RestLaw s ∧ SweepLaw s → step s = .next t → LoadQuiet t ∧ RestLaw t ∧ SweepLaw t

/-- Every step keeps the page bytes in their canonical form, inside the 2048 bytes of the buffer (chapter 4). -/
def Obligations.StepKeepsMemoryForm : Prop :=
  ∀ s t : State, MemoryLaw s → step s = .next t → MemoryLaw t

/-- The state after power-on reset has every field at its power-on value and holds every law, and the window reads there as the reset rules and tables give: ID
2340H, REV 0001H, load state SKIPPED, watermark 1, every other word 0000H. That the straps are sampled low, so that the load
is SKIPPED, and that both ALERT lines are high, is the model's choice (log entry 1). -/
def Obligations.ResetHoldsLawsAndReadsAsGiven : Prop :=
  (LoadQuiet State.reset ∧ RefLaw State.reset ∧ RouteLaw State.reset ∧ PageLaw State.reset ∧ SlotLaw State.reset) ∧
  (PlacesDistinct State.reset ∧ ShadowPlacesDistinct State.reset ∧ LoadVacant State.reset) ∧
  (QuarantineLaw State.reset ∧ AlarmLaw State.reset ∧ WorkLaw State.reset ∧ HeadLaw State.reset) ∧
  (ActiveLaw State.reset ∧ DisabledEmpty State.reset ∧ RangeLaw State.reset ∧ WatermarkLaw State.reset) ∧
  (RestLaw State.reset ∧ SweepLaw State.reset ∧ ReservedLaw State.reset ∧ MemoryLaw State.reset) ∧
  State.reset = partAtPowerOn false 0 0 false false [] [] ∧
  ∀ addr : BitVec 6, window State.reset addr =
    if addr = 0x00 then 0x2340 else if addr = 0x01 then 0x0001 else if addr = 0x04 then 0x8000
    else if addr = 0x0B then 0x0001 else 0x0000

/-! ### Command Queues and Completion Ring (chapters 2 and 3) -/

/-- SUBMIT reports the first failing check of Table 2-3, and otherwise takes the descriptor whole: last in the queue of
its target's segment, QUEUED, stamped with the tick, its page lent, its target's reference count one up (R25, R27, R29).
The slot, the lowest free one, is the model's choice (log entry 9).
The staged fields stand in DS0..DS4 at the positions of Table 12-4, the kind by its code (R24, Table 12-10). -/
def Obligations.SubmitChecksThenAccepts : Prop :=
  (∀ ds : Vector Word 5,
    let d := stagedDescriptor ds
    d.tag = (ds.get 0).extractLsb' 8 8 ∧ d.target = ((ds.get 0).extractLsb' 0 8).toNat ∧
    (∀ k, d.kind = some k ↔ ((ds.get 1).extractLsb' 13 3).toNat = k.number) ∧
    d.indexPresent = (ds.get 1).getLsbD 12 ∧ d.notify = (ds.get 1).getLsbD 11 ∧
    d.page.val = ((ds.get 1).extractLsb' 0 5).toNat ∧ d.index = ds.get 2 ∧
    d.writeLen = ((ds.get 3).extractLsb' 8 7).toNat ∧ d.readLen = ((ds.get 3).extractLsb' 0 7).toNat ∧
    d.deadline = ds.get 4) ∧
  (∀ (k : Kind) (w r : Nat), k.lengthsOk w r = true ↔ LengthRow k w r) ∧
  (∀ (d : StagedDescriptor) (width : BitVec 2), d.indexOk width = true ↔
    d.indexPresent = true → d.kind ≠ some .probe ∧ width ≠ 0 ∧ (width = 1 → d.index.toNat ≤ 0xFF)) ∧
  (∀ q : List Descriptor, q.length < 16 →
    (∀ d ∈ q, d.slot ≠ freeSlot q) ∧ ∀ n, n < freeSlot q → ∃ d ∈ q, d.slot = n) ∧
  ∀ (arg : Byte) (s : State), HostReady s →
    let d := stagedDescriptor s.ds
    let i := idx32 d.target
    let t := s.target i
    let x := t.cfg.segment
    let g := s.seg x
    let slot := freeSlot g.queue
    (d.target > 31 ∨ t.state = .vacant → exec (.submit arg) s = .next (s.refusal 0x01 arg 0x04)) ∧
    (¬ (d.target > 31 ∨ t.state = .vacant) →
      (t.state = .quarantined → exec (.submit arg) s = .next (s.refusal 0x01 arg 0x0B)) ∧
      (t.state ≠ .quarantined ∧ g.state = .disabled → exec (.submit arg) s = .next (s.refusal 0x01 arg 0x0A)) ∧
      (t.state ≠ .quarantined ∧ g.state ≠ .disabled ∧ d.kind = none →
        exec (.submit arg) s = .next (s.refusal 0x01 arg 0x05)) ∧
      ∀ k, t.state ≠ .quarantined → g.state ≠ .disabled → d.kind = some k →
        exec (.submit arg) s = .next (
          if k.lengthsOk d.writeLen d.readLen = false then s.refusal 0x01 arg 0x06
          else if d.indexOk t.cfg.width = false then s.refusal 0x01 arg 0x07
          else if k ≠ Kind.probe ∧ (s.holders.get d.page).isSome = true then s.refusal 0x01 arg 0x08
          else if 16 ≤ g.queue.length then s.refusal 0x01 arg 0x09
          else
            let held : Descriptor :=
              { tag := d.tag, target := i, kind := k, indexPresent := d.indexPresent, index := d.index
                writeLen := d.writeLen, readLen := d.readLen, page := if k = Kind.probe then none else some d.page
                deadline := d.deadline, notify := d.notify, state := .queued, acceptTick := s.tick, cut := false
                slot := slot }
            let s1 := s.setSeg x { g with queue := g.queue ++ [held] }
            { s1 with targets := vset s.targets i { t with refs := t.refs + 1 }
                      holders := if k = Kind.probe then s.holders
                                 else vset s.holders d.page (some { seg := x, slot := slot }) }.done 0x01 arg))

/-- POP, with any argument, is refused with LOADING during a load and with RING_EMPTY on an empty ring, and otherwise takes
the oldest entry away and changes nothing else; CE0..CE4 then show the next entry, or read 0000H (R53). In every state they
show the oldest entry, and 0000H on an empty ring (R55).
The image of an entry holds its fields at the positions of Table 12-8, its valid bit is 1 and its unused bits are 0 (R55,
R195). -/
def Obligations.PopTakesTheOldestEntry : Prop :=
  (∀ e : Completion, e.attempts ≤ 8 → e.writeCount ≤ 64 → e.readCount ≤ 64 →
    let w := fun n : Fin 5 => (completionImage e).get n
    ((w 0).extractLsb' 8 8 = e.tag ∧ ((w 0).extractLsb' 5 3).toNat = e.kind.number ∧
      ((w 0).extractLsb' 0 5).toNat = e.target.val) ∧
    ((w 1).getLsbD 15 = true ∧ ((w 1).extractLsb' 8 4).toNat = e.outcome.number ∧
      ((w 1).extractLsb' 4 4).toNat = e.attempts ∧ w 1 &&& 0x700F = 0) ∧
    (((w 2).extractLsb' 8 8).toNat = e.writeCount ∧ ((w 2).extractLsb' 0 8).toNat = e.readCount) ∧
    ((w 3).getLsbD 7 = e.page.isSome ∧ (w 3).getLsbD 6 = e.notify ∧ w 3 &&& 0xFF20 = 0 ∧
      (∀ p, e.page = some p → ((w 3).extractLsb' 0 5).toNat = p.val) ∧ (e.page = none → (w 3).extractLsb' 0 5 = 0)) ∧
    w 4 = e.stamp) ∧
  (∀ (s : State) (n : Fin 5), window s (0x18#6 + BitVec.ofNat 6 n.val) =
    match s.ring with
    | oldest :: _ => (completionImage oldest).get n
    | [] => 0x0000) ∧
  ∀ (arg : Byte) (s : State), s.rstnLow = false →
    (s.loader.state = .loading → exec (.pop arg) s = .next (s.refusal 0x02 arg 0x01)) ∧
    (s.loader.state ≠ .loading →
      (s.ring = [] → exec (.pop arg) s = .next (s.refusal 0x02 arg 0x11)) ∧
      ∀ (e : Completion) (rest : List Completion), s.ring = e :: rest →
        ∃ t, exec (.pop arg) s = .next t ∧ t = { s with ring := rest }.done 0x02 arg ∧
          notifyCount t.ring + (if e.notify = true then 1 else 0) = notifyCount s.ring ∧
          ∀ n : Fin 5, window t (0x18#6 + BitVec.ofNat 6 n.val) =
            match rest with
            | next :: _ => (completionImage next).get n
            | [] => 0x0000)

/-- ABORT cancels every QUEUED descriptor of the segment and marks an ACTIVE one to be cut; where no descriptor's item is
in flight, or its cut mark is already set, it changes nothing else (R39, R40, R41).
The engine's share of an ABORT, by the phase the cut finds and the point of the wires in it (R97, Table 5-7): in a retry gap
or a bus-free check the transaction ends at once, ABORTED; the stop before a retry becomes the closing stop; elsewhere the
cut mark is set and the condition or byte in progress goes on, a received byte told apart by whether its ninth bit is being
given. What an ABORT says that the wires did before it is
taken first, in order (the model's choice, log entry 13). -/
def Obligations.AbortCancelsAndCuts : Prop :=
  (∀ (x : Seg) (s : State), HostReady s →
    (∀ it, (s.seg x).item = some it → it.supplier = .queue → it.cut = true) →
    exec (.abort (segArg x) []) s =
      .next ((s.setSeg x { s.seg x with queue := (s.seg x).queue.map cancelled }).done 0x03 (segArg x))) ∧
  (∀ (arg : Byte) (x : Seg) (w : Wire) (seen : List (Seg × Wire)) (s : State), s.rstnLow = false →
    exec (.abort arg ((x, w) :: seen)) s = exec (.abort arg seen) (takeWire x w s)) ∧
  ∀ (x : Seg) (s : State) (it : Item) (i : Fin 32), HostReady s →
    (s.seg x).item = some it → it.supplier = .queue → it.cut = false → it.target = some i →
    let g := { s.seg x with queue := (s.seg x).queue.map cancelled }
    let answer := fun (h : Segment) => exec (.abort (segArg x) []) s = .next ((s.setSeg x h).done 0x03 (segArg x))
    (it.phase = .gap ∨ (it.phase = .opening ∧ it.point = .free) →
      answer { g with
        item := none, state := stateAfterWork g.state
        headReport := some { outcome := .aborted, attempts := it.attempts, writeCount := it.writeCount, readCount := it.readCount }
        tableReports := g.tableReports ++
          [{ target := i, ofDescriptor := true, dropped := false, body := .outcome .aborted }] }) ∧
    (it.phase = .stop .retry → answer { g with item := some { it with cut := true, phase := .stop (.ended .aborted) } }) ∧
    ((it.phase = .opening ∧ it.point ≠ .free) ∨ it.phase = .restart ∨ (∃ k, it.phase = .index k) ∨ it.phase = .dataOut ∨
        (∃ o, it.phase = .stop (.ended o)) →
      answer { g with item := some { it with cut := true } }) ∧
    (it.phase = .lengthByte ∨ (∃ n, it.phase = .dataIn n) →
      answer { g with item := some { it with cut := true, cutLate := decide (it.point = .ninth) } })

/-- A DEADLINE_EXPIRY makes a QUEUED descriptor EXPIRED once its nonzero deadline has elapsed since its acceptance, wherever
it stands in the queue, and changes nothing else (R37, R38). Before that, and for a descriptor in any other state, it changes
nothing, and it may be taken at any later tick: both are the model's (log entries 2 and 11). -/
def Obligations.DeadlineExpiresQueuedDescriptor : Prop :=
  ∀ (x : Seg) (pos : Fin 16) (s : State) (d : Descriptor), s.rstnLow = false → (s.seg x).queue[pos.val]? = some d →
    (d.state = .queued ∧ d.deadline ≠ 0 ∧ d.deadline.toNat ≤ (s.tick - d.acceptTick).toNat →
      exec (.deadlineExpiry x pos) s =
        .next (s.setSeg x { s.seg x with queue := (s.seg x).queue.set pos.val { d with state := .expired } })) ∧
    (d.state ≠ .queued ∨ d.deadline = 0 ∨ (s.tick - d.acceptTick).toNat < d.deadline.toNat →
      exec (.deadlineExpiry x pos) s = .next s)

/-- HEAD_FINISHED stores the engine's report in the ACTIVE head, which becomes FINISHED (R33). RETIREMENT, into a ring with
room, makes the completion entry of Table 2-5 the newest, removes the head, returns its page and drops its reference; with
a full ring it waits (R42, R43, R50). That a RETIREMENT with a QUEUED or ACTIVE head changes nothing is the model's choice
(log entry 2).
RINGSTAT shows the ring count, and WAIT_x exactly while a settled head of queue x meets a full ring (R51, R56, Table
12-9). -/
def Obligations.HeadFinishesThenRetires : Prop :=
  (∀ s : State, s.ring.length ≤ 32 →
    let w := window s 0x10
    (w.extractLsb' 0 6).toNat = s.ring.length ∧ w &&& 0x3FC0 = 0 ∧
    ∀ x, w.getLsbD (if x = Seg.a then 14 else 15) = true ↔ s.ring.length = 32 ∧
      ∃ d rest, (s.seg x).queue = d :: rest ∧
        (d.state = .cancelled ∨ d.state = .expired ∨ ∃ o a w r, d.state = .finished o a w r)) ∧
  ∀ (x : Seg) (s : State) (d : Descriptor) (rest : List Descriptor), s.rstnLow = false → (s.seg x).queue = d :: rest →
    (∀ r, d.state = .active → (s.seg x).headReport = some r →
      exec (.headFinished x) s = .next (s.setSeg x { s.seg x with
        headReport := none
        queue := { d with state := .finished r.outcome r.attempts r.writeCount r.readCount } :: rest })) ∧
    (∀ o a w r, (d.state = .finished o a w r ∨
        (d.state = .cancelled ∧ o = .cancelled ∧ a = 0 ∧ w = 0 ∧ r = 0) ∨
        (d.state = .expired ∧ o = .expired ∧ a = 0 ∧ w = 0 ∧ r = 0)) →
      (s.ring.length < 32 →
        exec (.retirement x) s = .next
          { s.setSeg x { s.seg x with queue := rest } with
            targets := vset s.targets d.target { s.target d.target with refs := (s.target d.target).refs - 1 }
            holders := (match d.page with
                        | some p => vset s.holders p none
                        | none => s.holders)
            ring := s.ring ++ [{ tag := d.tag, target := d.target, kind := d.kind, outcome := o, attempts := a
                                 writeCount := w, readCount := r, page := d.page, notify := d.notify
                                 stamp := s.tick.setWidth 16 }] }) ∧
      (32 ≤ s.ring.length → exec (.retirement x) s = .next s)) ∧
    (d.state = .queued ∨ d.state = .active → exec (.retirement x) s = .next s)

/-! ### Segment commands (chapters 6 and 7) -/

/-- PAUSE moves READY to PAUSED and puts BUSY or RECOVERY under PAUSING, leaves PAUSING and PAUSED, and is refused on a
HALTED and on a DISABLED segment; nothing but the segment state changes. RESUME makes a PAUSED segment READY and a
PAUSING one BUSY or RECOVERY again, by the work beneath the pause; in every other state it is answered DONE and changes
nothing (R111, R112, Table 6-4). -/
def Obligations.PauseAndResumeMoveTheSegmentState : Prop :=
  ∀ (x : Seg) (s : State), HostReady s →
    let g := s.seg x
    (g.state = .halted → exec (.pause (segArg x)) s = .next (s.refusal 0x04 (segArg x) 0x12)) ∧
    (g.state = .disabled → exec (.pause (segArg x)) s = .next (s.refusal 0x04 (segArg x) 0x0A)) ∧
    (g.state ≠ .halted → g.state ≠ .disabled →
      exec (.pause (segArg x)) s = .next ((s.setSeg x { g with
        state := if g.state = .ready then .paused else if g.state = .busy then .pausingTxn
                 else if g.state = .recovery then .pausingRec else g.state }).done 0x04 (segArg x))) ∧
    exec (.resume (segArg x)) s = .next ((s.setSeg x { g with
      state := if g.state = .paused then .ready else if g.state = .pausingTxn then .busy
               else if g.state = .pausingRec then .recovery else g.state }).done 0x05 (segArg x))

/-- SEG_ENABLE makes a DISABLED segment READY with streak 0 and sets the next-due tick of each enabled poll of the segment
to the present tick plus its phase, and its resolver then looks at its line; in any other state nothing changes (R109,
R145, R167).
SEG_DISABLE takes a READY, PAUSED or HALTED segment with an empty queue to DISABLED and stops its resolver, is
refused with SEGMENT_BUSY while a descriptor is held or work is under way, and leaves a DISABLED segment (R110, R167). The
result of an alert read still outstanding is dropped: its waiting report no longer sends one to the resolver, and every other
report is as before (R167). -/
def Obligations.SegEnableAndSegDisable : Prop :=
  ∀ (x : Seg) (s : State), HostReady s →
    let g := s.seg x
    let restful := g.state = .ready ∨ g.state = .paused ∨ g.state = .halted
    (g.state ≠ .disabled → exec (.segEnable (segArg x)) s = .next (s.done 0x06 (segArg x))) ∧
    (g.state = .disabled →
      let s1 := { s.setSeg x { g with state := .ready, streak := 0 } with
        cmd := wordOf 0x06 (segArg x)
        polls := vmap (fun p =>
          if p.enabled = true ∧ (s.target p.cfg.target).cfg.segment = x then
            { p with nextDue := s.tick + p.cfg.phase.setWidth 32, owed := .nothing }
          else p) s.polls }
      exec (.segEnable (segArg x)) s = .next ((lookAtLine x s1).done 0x06 (segArg x))) ∧
    (g.state = .disabled → exec (.segDisable (segArg x)) s = .next (s.done 0x07 (segArg x))) ∧
    (g.state ≠ .disabled → (¬ restful ∨ g.queue ≠ []) →
      exec (.segDisable (segArg x)) s = .next (s.refusal 0x07 (segArg x) 0x0F)) ∧
    (restful → g.queue = [] →
      exec (.segDisable (segArg x)) s = .next ((s.setSeg x { g.unwatched with state := .disabled }).done 0x07 (segArg x)))

/-- SEG_WRITE is refused outside DISABLED and PAUSED and for a staged set that is not legal; otherwise it stores the six
staged fields, and a resolver that no longer watches stops while one that begins to watch looks at its line (R104, R105,
R167). -/
def Obligations.SegWriteStoresTheConfiguration : Prop :=
  ∀ (x : Seg) (s : State), HostReady s →
    let g := s.seg x
    let a := s.ss.get 0
    let b := s.ss.get 1
    let holdoff := (s.ss.get 2).setWidth 8
    let share := b.extractLsb' 8 4
    let legal := a.extractLsb' 8 8 ≠ 0 ∧ a.setWidth 8 ≠ 0#8 ∧ 1 ≤ share.toNat ∧ share.toNat ≤ 8 ∧ holdoff ≠ 0#8
    let h := { g with
      cfg := { busFree := a.extractLsb' 8 8, stretch := a.setWidth 8, retryGap := b.extractLsb' 12 4, pollShare := share
               alertEnable := b.getLsbD 0, holdoff := holdoff } }
    (g.state ≠ .disabled → g.state ≠ .paused → exec (.segWrite (segArg x)) s = .next (s.refusal 0x08 (segArg x) 0x10)) ∧
    (g.state = .disabled ∨ g.state = .paused →
      (¬ legal → exec (.segWrite (segArg x)) s = .next (s.refusal 0x08 (segArg x) 0x0E)) ∧
      (legal →
        (g.state = .paused → g.cfg.alertEnable = true → b.getLsbD 0 = true →
          exec (.segWrite (segArg x)) s = .next ((s.setSeg x h).done 0x08 (segArg x))) ∧
        (b.getLsbD 0 = false ∨ g.state = .disabled →
          exec (.segWrite (segArg x)) s = .next ((s.setSeg x h.unwatched).done 0x08 (segArg x))) ∧
        (g.state = .paused → g.cfg.alertEnable = false → b.getLsbD 0 = true →
          exec (.segWrite (segArg x)) s =
            .next ((lookAtLine x ({ s with cmd := wordOf 0x08 (segArg x) }.setSeg x h)).done 0x08 (segArg x)))))

/-- SEG_READ copies the six fields of a segment configuration into SS0..SS2 in every segment state, is answered DONE and
changes nothing else; the segment state, queue count and resolver state stand in SEGSTAT_x at the positions of Table 12-9,
by the numbers of Table 12-10 (R106, R196). -/
def Obligations.SegReadCopiesTheConfiguration : Prop :=
  ∀ (x : Seg) (s : State), HostReady s →
    let g := s.seg x
    let c := g.cfg
    exec (.segRead (segArg x)) s = .next ({ s with
      ss := #v[c.busFree ++ c.stretch, c.retryGap ++ c.pollShare ++ 0#7 ++ BitVec.ofBool c.alertEnable,
               0#8 ++ c.holdoff] }.done 0x09 (segArg x)) ∧
    let w := window s (if x = Seg.a then 0x0E else 0x0F)
    (w.extractLsb' 12 4).toNat = g.state.number ∧ (w.extractLsb' 10 2).toNat = g.resolver.state.number ∧
    (g.queue.length ≤ 16 → (w.extractLsb' 5 5).toNat = g.queue.length) ∧ w &&& 0x001F = 0

/-- RECOVER on a HALTED segment begins a recovery with pulse count 0, sets FAULT_x and ends HALT_x; in any other state it is
refused with NOT_HALTED and the segment is left as it was (R131). -/
def Obligations.RecoverBeginsARecovery : Prop :=
  ∀ (x : Seg) (s : State), HostReady s →
    let g := s.seg x
    (g.state ≠ .halted → exec (.recover (segArg x)) s = .next (s.refusal 0x0A (segArg x) 0x13)) ∧
    (g.state = .halted → ∃ t, exec (.recover (segArg x)) s = .next t ∧ 
      (eventWord t).getLsbD (if x = Seg.a then 12 else 13) = false ∧
      t = ({ s with latched := s.latched ||| (if x = Seg.a then 0x0400 else 0x0800) }.setSeg x { g with
        state := .recovery, recovery := some (recoveryBegun s.tick g.cfg.stretch) }).done 0x0A (segArg x))

/-! ### Target Table (chapter 1) -/

/-- TGT_WRITE checks the reference count, the staged fields and the place, in this order; accepted, it writes the entry
UNKNOWN with every dynamic field 0 and detaches the poll or alert read that names it. TGT_CLEAR checks the reference count;
accepted, it leaves a VACANT entry and empties any other, detaching likewise. Both may end a sweep (R3, R14, R15, R17,
R19, R20, R164). A waiting report of a descriptor is not dropped (R33; log entry 5).
The staged fields stand in TS0..TS2 at the positions of Table 12-5, and are taken exactly where R2 calls them legal. -/
def Obligations.TgtWriteAndClearEditTheEntry : Prop :=
  (∀ (x : Seg) (address low : Byte) (threshold : BitVec 4) (mask : Byte) (index : Word) (c : TargetConfig),
    targetConfig x address low threshold mask index = some c ↔
      TargetLegal address (low.extractLsb' 6 2) (low.getLsbD 1) index mask ∧
      c = { segment := x, address := address.setWidth 7, width := low.extractLsb' 6 2
            speed := if low.getLsbD 5 = true then Speed.fast else Speed.standard, retryLimit := low.extractLsb' 2 3
            threshold := threshold, alertCapable := low.getLsbD 1, alertIndex := index, alertMask := mask }) ∧
  (∀ ts : Vector Word 6, stagedTarget ts =
    targetConfig (if (ts.get 0).getLsbD 15 = true then Seg.b else Seg.a) (((ts.get 0).extractLsb' 8 7).setWidth 8)
      ((ts.get 0).setWidth 8) ((ts.get 1).extractLsb' 12 4) ((ts.get 1).setWidth 8) (ts.get 2)) ∧
  ∀ (arg : Byte) (s : State), HostReady s → arg.toNat < 32 →
    let i := idx32 arg.toNat
    let edited := fun (code : Byte) (t : Target) =>
      ({ s with
          cmd := wordOf code arg, targets := vset s.targets i t
          segA := s.segA.detached i, segB := s.segB.detached i } : State)
    (0 < (s.target i).refs →
      exec (.tgtWrite arg) s = .next (s.refusal 0x10 arg 0x0C) ∧
      exec (.tgtClear arg) s = .next (s.refusal 0x12 arg 0x0C)) ∧
    ((s.target i).refs = 0 →
      (stagedTarget s.ts = none → exec (.tgtWrite arg) s = .next (s.refusal 0x10 arg 0x0E)) ∧
      (∀ c, stagedTarget s.ts = some c →
        ((∃ j, j ≠ i ∧ (s.target j).state ≠ .vacant ∧ (s.target j).cfg.segment = c.segment ∧
            (s.target j).cfg.address = c.address) →
          exec (.tgtWrite arg) s = .next (s.refusal 0x10 arg 0x0D)) ∧
        ((∀ j, j ≠ i → (s.target j).state ≠ .vacant → (s.target j).cfg.segment = c.segment →
            (s.target j).cfg.address ≠ c.address) →
          exec (.tgtWrite arg) s = .next ((endSweeps (edited 0x10
            { cfg := c, state := .unknown, failures := 0, refs := 0, alerting := false, alertValue := 0
              alertValid := false, lastSeen := 0 })).done 0x10 arg))) ∧
      ((s.target i).state = .vacant → exec (.tgtClear arg) s = .next (s.done 0x12 arg)) ∧
      ((s.target i).state ≠ .vacant →
        exec (.tgtClear arg) s = .next ((endSweeps (edited 0x12 targetAtPowerOn)).done 0x12 arg)))

/-- TGT_RELEASE is refused on a VACANT entry, and otherwise clears the failure count and makes a QUARANTINED entry UNKNOWN;
ACK_ALERT clears the alerting flag of any entry; neither changes anything else (R18).
ALERTING_LO and ALERTING_HI show the alerting flag of every entry, entry n at bit n and entry 16 + n at bit n (1.4,
Table 12-1). -/
def Obligations.TgtReleaseAndAckAlertActOnOneEntry : Prop :=
  (∀ (s : State) (i : Fin 32), (s.target i).alerting =
    if i.val < 16 then (window s 0x38).getLsbD i.val else (window s 0x39).getLsbD (i.val - 16)) ∧
  ∀ (arg : Byte) (s : State), HostReady s → arg.toNat < 32 →
    let i := idx32 arg.toNat
    let t := s.target i
    (t.state = .vacant → exec (.tgtRelease arg) s = .next (s.refusal 0x13 arg 0x04)) ∧
    (t.state ≠ .vacant → exec (.tgtRelease arg) s = .next (State.done { s with
      targets := vset s.targets i { t with
        failures := 0, state := if t.state = TgtState.quarantined then TgtState.unknown else t.state } } 0x13 arg)) ∧
    exec (.ackAlert arg) s = .next (State.done { s with
      targets := vset s.targets i { t with alerting := false } } 0x14 arg)

/-- TGT_READ and POLL_READ copy the image of an entry into TS0..TS5 and PS0..PS7 and change nothing else; the image of a
VACANT target is all 0 (R16, R144). -/
def Obligations.TgtReadAndPollReadCopyTheEntry : Prop :=
  ∀ (arg : Byte) (s : State), HostReady s →
    (arg.toNat < 32 →
      ((s.target (idx32 arg.toNat)).state = .vacant →
        exec (.tgtRead arg) s = .next (State.done { s with ts := Vector.replicate 6 0 } 0x11 arg)) ∧
      ((s.target (idx32 arg.toNat)).state ≠ .vacant →
        exec (.tgtRead arg) s = .next (State.done { s with ts := targetImage (s.target (idx32 arg.toNat)) } 0x11 arg))) ∧
    (arg.toNat < 24 →
      exec (.pollRead arg) s = .next (State.done { s with ps := pollImage (s.poll (idx24 arg.toNat)) } 0x21 arg))

/-- The images that TGT_READ, POLL_READ and SEG_READ write are read back as the same configured fields by TGT_WRITE,
POLL_WRITE and SEG_WRITE, but that the last value of a poll entry stands as its phase, where it is illegal above 60000; and
configured and dynamic fields stand at the positions of Tables 12-5 and 12-6, by the codes of Table 12-10 (R16, R106, R144,
R194). -/
def Obligations.ImagesReadBackAsTheSameFields : Prop :=
  (∀ (ts : Vector Word 6) (c : TargetConfig) (t : Target), stagedTarget ts = some c → t.cfg = c → t.state ≠ .vacant →
    stagedTarget (targetImage t) = some c) ∧
  (∀ (ps : Vector Word 8) (c : PollConfig) (p : Poll), stagedPoll ps = some c → p.cfg = c →
    stagedPoll (pollImage p) = if p.lastValue.toNat ≤ 60000 then some { c with phase := p.lastValue } else none) ∧
  (∀ (ss : Vector Word 3) (c : SegConfig), stagedSeg ss = some c → stagedSeg (segImage c) = some c) ∧
  (∀ t : Target, t.state ≠ .vacant → t.failures ≤ 15 → t.refs ≤ 40 →
    let w := fun n : Fin 6 => (targetImage t).get n
    ((w 0).getLsbD 15 = decide (t.cfg.segment = .b) ∧ (w 0).extractLsb' 8 7 = t.cfg.address ∧
      (w 0).extractLsb' 6 2 = t.cfg.width ∧ (w 0).getLsbD 5 = decide (t.cfg.speed = .fast) ∧
      (w 0).extractLsb' 2 3 = t.cfg.retryLimit ∧ (w 0).getLsbD 1 = t.cfg.alertCapable) ∧
    ((w 1).extractLsb' 12 4 = t.cfg.threshold ∧ (w 1).extractLsb' 0 8 = t.cfg.alertMask ∧ w 2 = t.cfg.alertIndex) ∧
    ((w 3).extractLsb' 13 3).toNat = t.state.number ∧ ((w 3).extractLsb' 9 4).toNat = t.failures ∧
    ((w 3).extractLsb' 3 6).toNat = t.refs ∧ (w 3).getLsbD 2 = t.alerting ∧ (w 3).getLsbD 1 = t.alertValid ∧
    (w 4).toNat = t.alertValue.toNat ∧ w 5 = t.lastSeen) ∧
  (∀ p : Poll, p.misses ≤ 15 → p.overruns ≤ 255 →
    let w := fun n : Fin 8 => (pollImage p).get n
    ((w 0).getLsbD 15 = p.cfg.notify ∧ (w 0).extractLsb' 13 2 = p.cfg.width ∧
      (w 0).getLsbD 12 = decide (p.cfg.order = .firstLow) ∧ (w 0).getLsbD 11 = p.cfg.signed ∧
      ((w 0).extractLsb' 8 3).toNat = p.cfg.mode.number ∧ ((w 0).extractLsb' 0 5).toNat = p.cfg.target.val) ∧
    (w 1 = p.cfg.register ∧ w 2 = p.cfg.period ∧ w 3 = p.lastValue ∧ w 4 = p.cfg.high ∧ w 5 = p.cfg.low) ∧
    ((w 6).extractLsb' 8 8 = p.cfg.hysteresis ∧ (w 6).extractLsb' 4 4 = p.cfg.staleLimit ∧ (w 6).getLsbD 0 = p.enabled) ∧
    ((w 7).extractLsb' 8 8).toNat = p.overruns ∧ ((w 7).extractLsb' 4 4).toNat = p.misses ∧
    ((w 7).extractLsb' 2 2).toNat = p.alarm.number ∧ (w 7).getLsbD 1 = p.flag ∧ (w 7).getLsbD 0 = p.valid)

/-- PRESENCE_REPORT makes an UNKNOWN or MISSING entry PRESENT and stamps every non-VACANT entry with the tick; a report
that a TGT_WRITE or TGT_CLEAR overtook changes no entry, and a VACANT entry is left, which is the model's choice (log
entry 8) (R5, R8, R20). -/
def Obligations.PresenceReportMarksTheTarget : Prop :=
  ∀ (x : Seg) (s : State) (i : Fin 32) (own dropped : Bool) (rest : List TableReport), s.rstnLow = false →
    (s.seg x).tableReports = { target := i, ofDescriptor := own, dropped := dropped, body := .presence } :: rest →
    let t := s.target i
    let s1 := s.setSeg x { s.seg x with tableReports := rest }
    exec (.presenceReport x) s = .next (
      if dropped = true ∨ t.state = .vacant then s1
      else { s1 with targets := vset s.targets i { t with
        state := if t.state = TgtState.unknown ∨ t.state = TgtState.missing then TgtState.present else t.state
        lastSeen := s.tick.setWidth 16 } })

/-- OUTCOME_REPORT of a descriptor or poll read applies Table 1-8 and R7 to the entry; an overtaken report changes none; a
quarantine may end a sweep (R6, R7, R8, R20, R164). That a VACANT entry is left alone is the model's choice (log entry 8).
OUTCOME_REPORT of an alert read that ended OK judges the byte against the alert mask as it stands: a masked bit stores
the value and sets the flag, with ALERT where the flag was clear, and the resolver that still waits is told so. Without a
masked bit, with another outcome, or where a TGT_WRITE or TGT_CLEAR overtook the report, it is told that nothing was found.
The outcome counts on the entry as that of any transaction (R6, R11, R20, R163, R167). -/
def Obligations.OutcomeReportsAreJudged : Prop :=
  (∀ (x : Seg) (s : State) (i : Fin 32) (own dropped : Bool) (o : TxOutcome) (rest : List TableReport),
    s.rstnLow = false →
    (s.seg x).tableReports = { target := i, ofDescriptor := own, dropped := dropped, body := .outcome o } :: rest →
    let s1 := s.setSeg x { s.seg x with tableReports := rest }
    exec (.outcomeReport x) s = .next (if dropped = true then s1 else endSweeps (s1.withOutcome i o))) ∧
  ∀ (x : Seg) (s : State) (i : Fin 32) (own dropped : Bool) (o : TxOutcome) (v : Byte) (awaited : Bool)
    (rest : List TableReport), s.rstnLow = false →
    (s.seg x).tableReports =
      { target := i, ofDescriptor := own, dropped := dropped, body := .alertOutcome o v awaited } :: rest →
    let t := s.target i
    let told := fun (r : AlertResult) => s.setSeg x { s.seg x with
      tableReports := rest
      alertResults := if awaited = true then (s.seg x).alertResults ++ [r] else (s.seg x).alertResults }
    (dropped = true → exec (.outcomeReport x) s = .next (told .nothing)) ∧
    (dropped = false →
      (o = .ok → v &&& t.cfg.alertMask ≠ 0 →
        let marked := vset s.targets i { t with alertValue := v, alertValid := true, alerting := true }
        (t.alerting = false → exec (.outcomeReport x) s = .next (endSweeps
          (State.withOutcome { told .newFlag with targets := marked, latched := s.latched ||| 0x0040 } i .ok))) ∧
        (t.alerting = true → exec (.outcomeReport x) s = .next (endSweeps
          (State.withOutcome { told .masked with targets := marked } i .ok)))) ∧
      (o ≠ .ok ∨ v &&& t.cfg.alertMask = 0 →
        exec (.outcomeReport x) s = .next (endSweeps ((told .nothing).withOutcome i o))))

/-! ### Poll Unit (chapter 8) -/

/-- POLL_WRITE is refused for an enabled entry and for staged fields that are not legal, and otherwise stores the
thirteen configured fields of a disabled entry and nothing else; legality is that of R137, and the fields stand in PS0..PS6
at the positions of Table 12-6 (R137, R140, R194). -/
def Obligations.PollWriteStoresTheConfiguredFields : Prop :=
  (∀ c : PollConfig, c.legal = true ↔
    (c.width = 1 ∨ c.width = 2) ∧ (1 ≤ c.period.toNat ∧ c.period.toNat ≤ 60000) ∧ c.phase.toNat ≤ 60000 ∧
    c.staleLimit ≠ 0 ∧ (c.mode = .outside →
      if c.signed = true then c.low.toInt ≤ c.high.toInt else c.low.toNat ≤ c.high.toNat)) ∧
  (∀ (w0 w1 w2 w3 w4 w5 w6 : Word) (c : PollConfig), pollConfig w0 w1 w2 w3 w4 w5 w6 = some c ↔
    c.legal = true ∧ (w0.extractLsb' 8 3).toNat = c.mode.number ∧ c.target.val = (w0.extractLsb' 0 5).toNat ∧
    c.register = w1 ∧ c.width = w0.extractLsb' 13 2 ∧
    c.order = (if w0.getLsbD 12 = true then ByteOrder.firstLow else ByteOrder.firstHigh) ∧ c.signed = w0.getLsbD 11 ∧
    c.period = w2 ∧ c.phase = w3 ∧ c.high = w4 ∧ c.low = w5 ∧ c.hysteresis = w6.extractLsb' 8 8 ∧
    c.staleLimit = w6.extractLsb' 4 4 ∧ c.notify = w0.getLsbD 15) ∧
  (∀ ps : Vector Word 8, stagedPoll ps =
    pollConfig (ps.get 0) (ps.get 1) (ps.get 2) (ps.get 3) (ps.get 4) (ps.get 5) (ps.get 6)) ∧
  ∀ (arg : Byte) (s : State), HostReady s → arg.toNat < 24 →
    let i := idx24 arg.toNat
    ((s.poll i).enabled = true → exec (.pollWrite arg) s = .next (s.refusal 0x20 arg 0x0C)) ∧
    ((s.poll i).enabled = false →
      (stagedPoll s.ps = none → exec (.pollWrite arg) s = .next (s.refusal 0x20 arg 0x0E)) ∧
      ∀ c, stagedPoll s.ps = some c → exec (.pollWrite arg) s = .next (State.done { s with
        polls := vset s.polls i { s.poll i with cfg := c } } 0x20 arg))

/-- POLL_ENABLE of a disabled entry is refused for a VACANT target and for a register index the target's width cannot
carry, and otherwise enables the entry, counts its reference, sets its next-due tick to the present tick plus the phase and
clears valid, alarm state and counts. POLL_DISABLE of an enabled entry drops the reference and turns a CURRENT read mark
into ORPHANED. Both are answered DONE with nothing changed where the entry already stands so (R141, R142, R143). -/
def Obligations.PollEnableAndDisable : Prop :=
  ∀ (arg : Byte) (s : State), HostReady s → arg.toNat < 24 →
    let i := idx24 arg.toNat
    let p := s.poll i
    let t := s.target p.cfg.target
    (p.enabled = true →
      exec (.pollEnable arg) s = .next (s.done 0x22 arg) ∧
      exec (.pollDisable arg) s = .next (State.done { s with
        targets := vset s.targets p.cfg.target { t with refs := t.refs - 1 }
        polls := vset s.polls i { p with
          enabled := false, owed := .nothing
          mark := if p.mark = ReadMark.current then ReadMark.orphaned else p.mark } } 0x23 arg)) ∧
    (p.enabled = false →
      exec (.pollDisable arg) s = .next (s.done 0x23 arg) ∧
      (t.state = .vacant → exec (.pollEnable arg) s = .next (s.refusal 0x22 arg 0x04)) ∧
      (t.state ≠ .vacant → t.cfg.width = 1 → 0xFF < p.cfg.register.toNat →
        exec (.pollEnable arg) s = .next (s.refusal 0x22 arg 0x07)) ∧
      (t.state ≠ .vacant → (t.cfg.width ≠ 1 ∨ p.cfg.register.toNat ≤ 0xFF) →
        exec (.pollEnable arg) s = .next (State.done { s with
          targets := vset s.targets p.cfg.target { t with refs := t.refs + 1 }
          polls := vset s.polls i { p with
            enabled := true, owed := .nothing, nextDue := s.tick + p.cfg.phase.setWidth 32, valid := false
            alarm := .normal, misses := 0, overruns := 0 } } 0x22 arg)))

/-- POLL_DUE stores nothing, by log entry 7. POLL_OVERRUN, where an advance found the entry due for a whole period and it
still is, counts one overrun, moves the next-due tick one period on and sets OVERRUN; QUARANTINE_MISS, where an advance found
the entry reached on a QUARANTINED target and it still is, counts a miss and moves the next-due tick likewise (R147, R148,
R149, R151). The note of what the advance found is the model's own (log entry 6), and that without it neither changes
anything is its choice (log entry 2), as is an overrun with period 0, of an entry never written (log entry 26). -/
def Obligations.OverrunsAndQuarantineMissesAreTaken : Prop :=
  ∀ (i : Fin 24) (s : State), s.rstnLow = false →
    let p := s.poll i
    let next := { p with nextDue := p.nextDue + p.cfg.period.setWidth 32, owed := .nothing }
    let scheduled := p.enabled = true ∧ (s.seg (s.target p.cfg.target).cfg.segment).state ≠ .disabled
    let reached := (s.tick - p.nextDue).toNat < 65536
    let quarantined := (s.target p.cfg.target).state = .quarantined
    let overrun := p.owed = .overrun ∧ scheduled ∧ reached ∧ ¬ quarantined ∧
      p.cfg.period.toNat ≤ (s.tick - p.nextDue).toNat
    let miss := p.owed = .miss ∧ scheduled ∧ reached ∧ quarantined
    exec (.pollDue i) s = .next s ∧
    (overrun → exec (.pollOverrun i) s = .next { s with
      polls := vset s.polls i { next with overruns := min (p.overruns + 1) 255 }
      latched := s.latched ||| 0x0020 }) ∧
    (¬ overrun → exec (.pollOverrun i) s = .next s) ∧
    (miss → exec (.quarantineMiss i) s = .next { s with polls := vset s.polls i next.missed }) ∧
    (¬ miss → exec (.quarantineMiss i) s = .next s)

/-- TICK_ADVANCE raises the count by 1, modulo 2³², and notes for each poll entry whether the advance leaves it a
quarantine miss or an overrun to take (the note is the model's own, log entry 6); nothing else changes but for what the
wires did in the millisecond it ends, which is taken first, in order (the model's choice, log entry 13) (R120, R147, R149). That with period 0, of an entry never
written, the note is an overrun is its choice too (log entry 26). -/
def Obligations.TickAdvanceCountsAndFindsOverdues : Prop :=
  (∀ (seen : List (Seg × Wire)) (rest : List (List (Seg × Wire))) (s : State), s.rstnLow = false → s.wires = seen :: rest →
    ∃ t, exec .tickAdvance (seen.foldl (fun u h => takeWire h.1 h.2 u) { s with wires := [] }) = .next t ∧
      exec .tickAdvance s = .next { t with wires := rest }) ∧
  ∀ s : State, s.rstnLow = false → s.wires = [] →
    ∃ t, exec .tickAdvance s = .next t ∧ t.tick = s.tick + 1 ∧ { t with tick := s.tick, polls := s.polls } = s ∧
      ∀ i, let p := s.poll i
        let since := (s.tick + 1 - p.nextDue).toNat
        let overdue := p.enabled = true ∧ (s.seg (s.target p.cfg.target).cfg.segment).state ≠ .disabled ∧ since < 65536
        { t.poll i with owed := p.owed } = p ∧
        ((t.poll i).owed = .miss ↔ overdue ∧ (s.target p.cfg.target).state = .quarantined) ∧
        ((t.poll i).owed = .overrun ↔ overdue ∧ (s.target p.cfg.target).state ≠ .quarantined ∧ p.cfg.period.toNat ≤ since)

/-- POLL_READ_REPORT uses a report of the latest grant while the mark is CURRENT: an OK read gives its value, judged and
stored, with miss count 0, and a failed read counts a miss. A report of the latest grant under another mark is discarded and
the mark becomes NONE; a report of an earlier grant changes nothing (R143, R150, R152). The value is the one R152 assembles
for a value width of 1 or 2; for any other no rule states it, and it is free (log entry 26). -/
def Obligations.PollReadReportIsTakenByItsGrant : Prop :=
  ∀ (x : Seg) (s : State) (i : Fin 24) (grant : Nat) (o : TxOutcome) (bytes : List Byte) (rest : List PollReport),
    s.rstnLow = false →
    (s.seg x).pollReports = { entry := i, grant := grant, outcome := o, bytes := bytes } :: rest →
    let p := s.poll i
    let s1 := s.setSeg x { s.seg x with pollReports := rest }
    let w := p.value bytes
    let alarm := judge p.cfg (if p.valid = true then p.alarm else AlarmState.normal) (valueOf p.cfg.signed w)
    (p.cfg.width = 1 ∨ p.cfg.width = 2 → w = assemble p.cfg bytes) ∧
    (p.latestGrant ≠ grant → exec (.pollReadReport x) s = .next s1) ∧
    (p.latestGrant = grant →
      (p.mark ≠ .current → exec (.pollReadReport x) s = .next { s1 with
        polls := vset s.polls i { p with mark := .none } }) ∧
      (p.mark = .current → o ≠ .ok → exec (.pollReadReport x) s = .next { s1 with
        polls := vset s.polls i { p.missed with mark := .none } }) ∧
      (p.mark = .current → o = .ok → exec (.pollReadReport x) s = .next { s1 with
        polls := vset s.polls i { p with
          misses := 0, alarm := alarm, lastValue := w, valid := true, mark := .none
          flag := p.flag || (p.cfg.notify && (decide (alarm ≠ p.alarm) || changeEvent p (valueOf p.cfg.signed w))) } }))

/-- Judgement by Tables 8-3 and 8-4 with the return thresholds of R153 held in the range, CHANGE events by the unsigned
difference, and the assembly of a value by width, order and signedness (R152 to R155). A word, assembled or of a limit, is
read in two's complement where the entry is SIGNED and as a plain number otherwise (R137, R152). -/
def Obligations.JudgementFollowsTheTables : Prop :=
  (∀ (signed : Bool) (w : Word), valueOf signed w = if signed = true then w.toInt else (w.toNat : Int)) ∧
  (∀ (c : PollConfig) (v : Int),
    let hi := valueOf c.signed c.high
    let lo := valueOf c.signed c.low
    let h := (c.hysteresis.toNat : Int)
    let bottom : Int := if c.signed = true then -32768 else 0
    let top : Int := if c.signed = true then 32767 else 65535
    (c.mode = .none ∨ c.mode = .change → judge c .normal v = .normal) ∧
    (c.mode = .above →
      (judge c .normal v = if hi < v then .high else .normal) ∧
      (judge c .high v = if v ≤ max bottom (hi - h) then .normal else .high)) ∧
    (c.mode = .below →
      (judge c .normal v = if v < lo then .low else .normal) ∧
      (judge c .low v = if min top (lo + h) ≤ v then .normal else .low)) ∧
    (c.mode = .outside →
      (judge c .normal v = if hi < v then .high else if v < lo then .low else .normal) ∧
      (judge c .high v = if v < lo then .low else if v ≤ max bottom (hi - h) then .normal else .high) ∧
      (judge c .low v = if hi < v then .high else if min top (lo + h) ≤ v then .normal else .low))) ∧
  (∀ (p : Poll) (v : Int), changeEvent p v = true ↔
    p.cfg.mode = .change ∧ p.valid = true ∧
      ((p.cfg.hysteresis.toNat : Int) < v - valueOf p.cfg.signed p.lastValue ∨
       (p.cfg.hysteresis.toNat : Int) < valueOf p.cfg.signed p.lastValue - v)) ∧
  (∀ (c : PollConfig) (b0 b1 : Byte),
    (c.width = 1 → valueOf c.signed (assemble c [b0]) = if c.signed = true then b0.toInt else (b0.toNat : Int)) ∧
    (c.width = 2 → assemble c [b0, b1] = if c.order = .firstHigh then b0 ++ b1 else b1 ++ b0))

/-! ### Alert Resolvers (chapter 9) -/

/-- A resolver that looks at its line becomes PENDING only where it watches, is IDLE and finds the line low, with cursor 0
and its record clear; and a sweep ends exactly where no read is outstanding and no qualifying target stands at or above the
cursor, in HOLDOFF from the present tick, with UNRESOLVED where the line is low and nothing was found (R160, R161, R164). -/
def Obligations.SweepsBeginAndEndByTheirTests : Prop :=
  ∀ (x : Seg) (s : State),
    let g := s.seg x
    let r : Resolver := g.resolver
    let left := fun (cursor : Nat) => ∃ i : Fin 32, cursor ≤ i.val ∧ (s.target i).state ≠ .vacant ∧
      (s.target i).cfg.segment = x ∧ (s.target i).cfg.alertCapable = true ∧ (s.target i).state ≠ .quarantined
    let ended := fun (low found : Bool) => { s.setSeg x { g with
        resolver := { r with state := .holdoff, cursor := 0, found := false, holdStart := s.tick
                             holdLen := g.cfg.holdoff } } with
      latched := if found = false ∧ low = true then s.latched ||| 0x0200 else s.latched }
    let looks := g.cfg.alertEnable = true ∧ g.state ≠ .disabled ∧ r.state = .idle ∧ g.alertLow = true
    let sweeping := r.state = .pending ∨ r.state = .sweeping
    endSweeps s = endSweep .b (endSweep .a s) ∧
    (¬ looks → lookAtLine x s = s) ∧
    (looks → (r.outstanding = true ∨ left 0) → lookAtLine x s = s.setSeg x { g with
      resolver := { r with state := .pending, cursor := 0, found := false } }) ∧
    (looks → r.outstanding = false → ¬ left 0 → lookAtLine x s = ended true false) ∧
    ((¬ sweeping ∨ r.outstanding = true ∨ left r.cursor) → endSweep x s = s) ∧
    (sweeping → r.outstanding = false → ¬ left r.cursor → endSweep x s = ended g.alertLow r.found)

/-- ALERT_LINE_CHANGE moves the pin, and with RSTn high the resolver then looks at its line; HOLDOFF_END, once the holdoff
length has elapsed since the holdoff start, begins a sweep on a low line and makes the resolver IDLE otherwise;
ALERT_RESULT ends the outstanding read, records a masked bit, and the sweep may end (R160, R163, R164, R165). The model's
own are: the pin alone moves while RSTn is low (log entry 3), a HOLDOFF_END may be taken later than its advance (log entry
11), and a HOLDOFF_END before its time, or an ALERT_RESULT with no result waiting, changes nothing, while a result that no
outstanding read awaits is only taken away (log entry 2). -/
def Obligations.AlertHappeningsMoveTheResolver : Prop :=
  ∀ (x : Seg) (s : State),
    let g := s.seg x
    let r : Resolver := g.resolver
    let expired := r.state = .holdoff ∧ r.holdLen.toNat ≤ (s.tick - r.holdStart).toNat
    (∀ low, exec (.alertLineChange x low) s = .next (
      if s.rstnLow = true then s.setSeg x { g with alertLow := low }
      else lookAtLine x (s.setSeg x { g with alertLow := low }))) ∧
    (s.rstnLow = false →
      (expired → g.alertLow = false → exec (.holdoffEnd x) s = .next (s.setSeg x { g with
        resolver := { r with state := .idle } })) ∧
      (expired → g.alertLow = true → exec (.holdoffEnd x) s = .next (endSweep x (s.setSeg x { g with
        resolver := { r with state := .pending, cursor := 0, found := false } }))) ∧
      (¬ expired → exec (.holdoffEnd x) s = .next s) ∧
      (∀ result rest, g.alertResults = result :: rest → r.outstanding = true →
        exec (.alertResult x) s = .next (endSweep x (s.setSeg x { g with
          alertResults := rest
          resolver := { r with outstanding := false, found := r.found || decide (result ≠ .nothing) } }))) ∧
      (∀ result rest, g.alertResults = result :: rest → r.outstanding = false →
        exec (.alertResult x) s = .next (endSweep x (s.setSeg x { g with alertResults := rest }))) ∧
      (g.alertResults = [] → exec (.alertResult x) s = .next s))

/-! ### Segment Arbiter (6.3) -/

/-- A grant decision of a READY segment with an alert candidate grants it ahead of all else: BUSY with the record of the
alert read, the resolver SWEEPING past it with the read outstanding (R115, R117, R162). -/
def Obligations.GrantTakesAnAlertReadFirst : Prop :=
  ∀ (x : Seg) (s : State) (i : Fin 32), s.rstnLow = false → (s.seg x).state = .ready → NextAlert s x i →
    let g := s.seg x
    exec (.grantDecision x) s = .next (s.setSeg x { g with
      state := .busy
      resolver := { g.resolver with state := .sweeping, cursor := i.val + 1, outstanding := true }
      item := some (recordOf (s.target i) i .alert (.alertRead (s.target i).cfg.alertIndex) s.tick) })

/-- Without an alert candidate, a due poll is granted where no head is QUEUED or the streak has reached the poll share:
next-due tick one period on from the tick served, mark CURRENT, this grant the latest, streak 0 (R115, R116, R117,
R146). That an entry of period 0, never written, is due again at once is the model's choice (log entry 26). -/
def Obligations.GrantTakesTheEarliestPoll : Prop :=
  ∀ (x : Seg) (s : State) (i : Fin 24), s.rstnLow = false → (s.seg x).state = .ready → (∀ j, ¬ NextAlert s x j) →
    NextPoll s x i →
    (∀ d rest, (s.seg x).queue = d :: rest → d.state = .queued → (s.seg x).cfg.pollShare.toNat ≤ (s.seg x).streak) →
    let g := s.seg x
    let p := s.poll i
    exec (.grantDecision x) s = .next { s.setSeg x { g with
        state := .busy, streak := 0
        item := some (recordOf (s.target p.cfg.target) p.cfg.target (.poll i s.grants)
          (.pollRead p.cfg.register p.cfg.width) s.tick) } with
      polls := vset s.polls i { p with
        nextDue := p.nextDue + p.cfg.period.setWidth 32, owed := .nothing, mark := .current, latestGrant := s.grants }
      grants := s.grants + 1 }

/-- Otherwise the QUEUED head is taken: FINISHED with TARGET_QUARANTINED and no grant where its target is QUARANTINED, and
granted in every other case, ACTIVE with the streak one up, saturating at 8. With no candidate, or outside READY, a grant
decision changes nothing (R35, R114, R115, R116, R117). -/
def Obligations.GrantTakesTheQueuedHead : Prop :=
  ∀ (x : Seg) (s : State), s.rstnLow = false →
    let g := s.seg x
    (∀ d rest, g.state = .ready → (∀ j, ¬ NextAlert s x j) → g.queue = d :: rest → d.state = .queued →
      ((∀ i, ¬ NextPoll s x i) ∨ g.streak < g.cfg.pollShare.toNat) →
      ((s.target d.target).state = .quarantined → exec (.grantDecision x) s = .next (s.setSeg x { g with
        queue := { d with state := .finished .targetQuarantined 0 0 0 } :: rest })) ∧
      ((s.target d.target).state ≠ .quarantined → exec (.grantDecision x) s = .next (s.setSeg x { g with
        state := .busy, streak := min (g.streak + 1) 8
        queue := { d with state := .active } :: rest
        item := some (recordOf (s.target d.target) d.target .queue
          (.descriptor d.kind d.indexPresent d.index d.writeLen d.readLen d.page) s.tick) }))) ∧
    (g.state ≠ .ready ∨ ((∀ j, ¬ NextAlert s x j) ∧ (∀ i, ¬ NextPoll s x i) ∧
        ∀ d rest, g.queue = d :: rest → d.state ≠ .queued) →
      exec (.grantDecision x) s = .next s)

/-! ### Segment Engine: transactions (chapter 5) -/

/-- A detected fault ends the item with its outcome, hands out its reports, takes the segment into RECOVERY (or PAUSING over a
recovery) with a fresh recovery record, and sets FAULT_x, and touches nothing else; a loader read reports to the loader and
begins no recovery (R84, R122, R124). BUS_FREE_TIMEOUT is taken while the bus-free check is under way, past the bus-free
timeout (R77); STRETCH_TIMEOUT in a hold, past the stretch timeout from the release of SCLx (R81); DATA_MISMATCH outside a
hold where the engine expects SDAx high: in a repeated start or a stop, in a byte sent that has a 1, in the engine's own NACK
(R84). The bus-free check ends where the bus is found free; a hold begins and ends with SCLx, where the engine gives clock
pulses (R77, R81). Both lines are released in the check and in a gap, and in a hold before a repeated start, of a bit received
and of the ninth bit of a byte sent, and not in the hold of a stop (R77, R79, R80, R82, R83, R90). That the wires have happenings of their own, which DATA_MISMATCH implies where they are left unsaid, and
which bit of a byte is at fault, is the model's (log entries 13 and 15), and that a happening is not taken elsewhere or
before its time is its choice (log entry 2). -/
def Obligations.FaultsEndTheItemAndBeginRecovery : Prop :=
  ∀ (x : Seg) (s : State) (it : Item), s.rstnLow = false → (s.seg x).item = some it →
    let g := s.seg x
    let busFree := if it.supplier = .loader then 35 else g.cfg.busFree.toNat
    let stretch := if it.supplier = .loader then 25 else g.cfg.stretch.toNat
    let checking := it.phase = .opening ∧ it.point = .free
    let clocked := it.point = .bits ∨ it.point = .ninth ∨ (it.point = .condition ∧ it.phase ≠ .opening)
    let becomes := fun (it' : Item) => s.setSeg x { g with item := some it' }
    let faulted := fun (c : Instr) (o : TxOutcome) =>
      (it.supplier ≠ .loader → exec c s = .next { s.setSeg x { g.reported it o with
          state := stateAfterFault g.state, recovery := some (recoveryBegun s.tick g.cfg.stretch) } with
        latched := s.latched ||| (if x = Seg.a then 0x0400 else 0x0800) }) ∧
      (it.supplier = .loader → exec c s = .next { s.setSeg x { g with item := none } with
        loader := { s.loader with report := some { outcome := o, second := it.second, bytes := it.bytes } } })
    let ready := fun (i : Item) => decide (i.hold = none) && mismatchPossible s.mem i
    (checking →
      (busFree < (s.tick - it.since).toNat → faulted (.busFreeTimeout x) .busFault) ∧
      ((s.tick - it.since).toNat ≤ busFree → exec (.busFreeTimeout x) s = .next s) ∧
      takeWire x .busFree s = becomes { it with point := .condition }) ∧
    (¬ checking → exec (.busFreeTimeout x) s = .next s ∧ takeWire x .busFree s = s) ∧
    (∀ since, it.hold = some since →
      (stretch < (s.tick - since).toNat → faulted (.stretchTimeout x) .stretchTimeout) ∧
      ((s.tick - since).toNat ≤ stretch → exec (.stretchTimeout x) s = .next s) ∧ takeWire x .held s = s) ∧
    takeWire x .clockHigh s = becomes { it with hold := none } ∧
    (it.hold = none →
      exec (.stretchTimeout x) s = .next s ∧
      (clocked → takeWire x .held s = becomes { it with hold := some s.tick }) ∧
      (¬ clocked → takeWire x .held s = s) ∧
      (mismatchPossible s.mem it = true → faulted (.dataMismatch x) .busFault)) ∧
    (g.recovery = none →
      (it.phase = .gap ∨ checking → linesReleased s x = true) ∧
      (it.hold ≠ none → it.point = .condition →
        (it.phase = .restart → linesReleased s x = true) ∧
        ((∃ c, it.phase = .stop c) → linesReleased s x = false)) ∧
      (it.hold ≠ none → it.point = .bits → it.phase = .lengthByte ∨ (∃ n, it.phase = .dataIn n) →
        linesReleased s x = true) ∧
      (it.hold ≠ none → it.point = .ninth →
        it.phase = .opening ∨ it.phase = .restart ∨ (∃ k, it.phase = .index k) ∨ it.phase = .dataOut →
        linesReleased s x = true)) ∧
    (∀ it', it.bringTo ready s.tick = some it' → exec (.dataMismatch x) s = exec (.dataMismatch x) (becomes it')) ∧
    (it.bringTo ready s.tick = none → exec (.dataMismatch x) s = .next s) ∧
    (it.point = .free → mismatchPossible s.mem it = false) ∧
    (it.point = .condition → (mismatchPossible s.mem it = true ↔ it.phase ≠ .opening)) ∧
    (it.point = .bits → (mismatchPossible s.mem it = true ↔ ∃ b, byteSent s.mem it = some b ∧ b ≠ 0)) ∧
    (it.point = .ninth →
      (it.phase = .lengthByte → mismatchPossible s.mem it = true) ∧
      (∀ total, it.phase = .dataIn total →
        (∀ kind present index w r page, it.form = .descriptor kind present index w r page →
          (mismatchPossible s.mem it = true ↔ total ≤ it.readCount ∨ (it.cut = true ∧ it.cutLate = false))) ∧
        ((∀ kind present index w r page, it.form ≠ .descriptor kind present index w r page) →
          (mismatchPossible s.mem it = true ↔ total ≤ it.bytes.length + 1))) ∧
      (it.phase ≠ .lengthByte → (∀ total, it.phase ≠ .dataIn total) → mismatchPossible s.mem it = false))

/-- The bytes the engine sends end by the target's answer. An acknowledged address is followed by the next phase of the
transaction and sends a presence report; a first address not acknowledged is retried while attempts are left, and otherwise
ends NACK_ADDRESS, as a second address does at once; an index or data byte goes on at ACK, a data byte counted, and ends
NACK_DATA at NACK. A cut mark puts a closing stop, ABORTED, in place of whatever follows, also after a start or repeated
start under way (R79, R82, R85, R86, R90, R91, R94, R97). A phase of a byte begins at its bits, a repeated start and
a stop at the condition, an opening at its bus-free check and a gap with both lines released (5.2). The condition
made and the eighth bit are happenings of the wires;
a byte ends at its ninth bit outside a hold, and a BYTE_END that comes sooner implies the happenings left unsaid: SCLx high,
the bus free, the condition, the eighth bit, in this order. Both are the model's (log entry 13), and that elsewhere nothing
changes is its choice (log entry 2). -/
def Obligations.SentBytesGoOnByTheirAnswer : Prop :=
  ∀ (x : Seg) (ack : Bool) (byte : Byte) (s : State) (it : Item), s.rstnLow = false → (s.seg x).item = some it →
    let g := s.seg x
    let p := it.plan
    let making := (it.phase = .opening ∨ it.phase = .restart) ∧ it.point = .condition ∧ it.hold = none
    let atNinth := fun (i : Item) => decide (i.hold = none) && decide (i.point = .ninth) && i.phase.hasByte
    let stored := (∃ total, it.phase = .dataIn total) ∧
      ∃ kind present index w r page, it.form = .descriptor kind present index w r page
    let goes := fun (it' : Item) (ph : Phase) => exec (.byteEnd x ack byte) s = .next (s.setSeg x { g with
      item := some (it'.toPhase (if it.cut = true then .stop (.ended .aborted) else ph) s.tick) })
    let goesSeen := fun (ph : Phase) => exec (.byteEnd x ack byte) s = .next (s.setSeg x (Segment.presenceSent { g with
      item := some (it.toPhase (if it.cut = true then .stop (.ended .aborted) else ph) s.tick) } it))
    (making → takeWire x .started s = s.setSeg x { g with
      item := some (if it.cut = true then it.toPhase (.stop (.ended .aborted)) s.tick else { it with point := .bits }) }) ∧
    (¬ making → takeWire x .started s = s) ∧
    (it.point = .bits ∧ it.hold = none ∧ ¬ stored →
      takeWire x .eighth s = s.setSeg x { g with item := some { it with point := .ninth } }) ∧
    (¬ (it.point = .bits ∧ it.hold = none ∧ ¬ stored) → takeWire x .eighth s = s) ∧
    it.onward s.tick = (
      if it.hold ≠ none then some { it with hold := none }
      else if it.phase = .opening ∧ it.point = .free then some { it with point := .condition }
      else if (it.phase = .opening ∨ it.phase = .restart) ∧ it.point = .condition then
        some (if it.cut = true then it.toPhase (.stop (.ended .aborted)) s.tick else { it with point := .bits })
      else if it.point = .bits ∧ it.storesByte = false then some { it with point := .ninth } else none) ∧
    (Phase.opening.start = .free ∧ Phase.gap.start = .free ∧ Phase.restart.start = .condition ∧
      (∀ c, (Phase.stop c).start = .condition) ∧ (∀ k, (Phase.index k).start = .bits) ∧ Phase.dataOut.start = .bits ∧
      Phase.lengthByte.start = .bits ∧ ∀ n, (Phase.dataIn n).start = .bits) ∧
    (it.storesByte = true ↔ stored) ∧ (it.phase.hasByte = true ↔ it.phase ≠ .gap ∧ ∀ c, it.phase ≠ .stop c) ∧
    (∀ ready : Item → Bool, it.bringTo ready s.tick =
      if ready it = true then some it else (it.onward s.tick).bind (Item.bringTo ready s.tick)) ∧
    (∀ it', it.bringTo atNinth s.tick = some it' →
      exec (.byteEnd x ack byte) s = exec (.byteEnd x ack byte) (s.setSeg x { g with item := some it' })) ∧
    (it.bringTo atNinth s.tick = none → exec (.byteEnd x ack byte) s = .next s) ∧
    (it.point = .ninth → it.hold = none →
      (it.phase = .opening →
        (ack = true → goesSeen p.afterAddress) ∧
        (ack = false → goes it (if it.attempts ≤ it.retryLimit.toNat then .stop .retry else .stop (.ended .nackAddress)))) ∧
      (it.phase = .restart →
        (ack = true → goesSeen p.beginRead) ∧ (ack = false → goes it (.stop (.ended .nackAddress)))) ∧
      (∀ k, it.phase = .index k →
        goes it (if ack = false then .stop (.ended .nackData) else if k + 1 < p.index.length then .index (k + 1)
                 else p.afterIndex)) ∧
      (it.phase = .dataOut →
        (ack = true → goes { it with writeCount := it.writeCount + 1 }
          (if it.writeCount + 1 < p.out then .dataOut else p.afterOut)) ∧
        (ack = false → goes it (.stop (.ended .nackData)))))

/-- The phases of a descriptor in the order of Table 5-4: index bytes high byte first where an index is present, the written
bytes, a repeated start before a read that follows anything written, and a single address in read direction where nothing is
written; a poll, alert or loader read sends its register index (its offset) by the latched width, high byte first, and reads
its width, one byte or sixteen (R86, R88, R182, Table 5-4). The byte sent is the seven address bits with the direction bit, 0
for write and 1 for read; index byte k; or the page byte at the write count (R66, R79; that an offset past 63 wraps in its
page is log entry 21; that a poll read of value width 0 goes on to data bytes like any other is log entry 26). -/
def Obligations.PhasesFollowTheKind : Prop :=
  (∀ (m : Memory) (it : Item),
    (it.phase = .opening → byteSent m it = some (it.address ++ (if it.plan.writesFirst = true then 0#1 else 1#1))) ∧
    (it.phase = .restart → byteSent m it = some (it.address ++ 1#1)) ∧
    (∀ k, it.phase = .index k → byteSent m it = it.plan.index[k]?) ∧
    (∀ kind present index w r page, it.phase = .dataOut → it.form = .descriptor kind present index w r (some page) →
      byteSent m it = some (m.read (page.val * 64 + it.writeCount % 64))) ∧
    (it.phase = .lengthByte ∨ it.phase = .gap ∨ (∃ n, it.phase = .dataIn n) ∨ (∃ c, it.phase = .stop c) →
      byteSent m it = none)) ∧
  (∀ (it : Item) (index : Word) (n : Nat),
    ((∃ width, it.form = .pollRead index width ∧ n = width.toNat) ∨ (it.form = .alertRead index ∧ n = 1) ∨
      (it.form = .loaderRead index ∧ n = 16)) →
    it.plan.out = 0 ∧
    (it.width = 0 → it.plan.index = [] ∧ it.plan.afterAddress = .dataIn n ∧ it.plan.writesFirst = false) ∧
    (it.width = 1 → it.plan.index = [index.setWidth 8]) ∧
    (it.width = 2 → it.plan.index = [index.extractLsb' 8 8, index.setWidth 8]) ∧
    (it.width = 1 ∨ it.width = 2 →
      it.plan.afterAddress = .index 0 ∧ it.plan.afterIndex = .restart ∧ it.plan.writesFirst = true) ∧
    it.plan.beginRead = .dataIn n) ∧
  ∀ (it : Item) (kind : Kind) (present : Bool) (index : Word) (w r : Nat) (page : Option (Fin 32)),
    it.form = .descriptor kind present index w r page → LengthRow kind w r → (kind = .probe → present = false) →
    (present = true → it.width = 1 ∨ it.width = 2) →
    let p := it.plan
    (present = true → it.width = 1 → p.index = [index.setWidth 8]) ∧
    (present = true → it.width = 2 → p.index = [index.extractLsb' 8 8, index.setWidth 8]) ∧
    (present = false → p.index = []) ∧
    (p.afterAddress = if present = true then .index 0
      else if kind = .write ∨ kind = .writeRead then .dataOut
      else if kind = .probe then .stop (.ended .ok) else if kind = .read then .dataIn r else .lengthByte) ∧
    (present = true → p.afterIndex = if kind = .write ∨ kind = .writeRead then .dataOut else .restart) ∧
    (kind = .write → p.out = w ∧ p.afterOut = .stop (.ended .ok)) ∧
    (kind = .writeRead → p.out = w ∧ p.afterOut = .restart) ∧
    (kind = .read ∨ kind = .writeRead → p.beginRead = .dataIn r) ∧
    (kind = .blockRead → p.beginRead = .lengthByte) ∧
    (p.writesFirst = false ↔ (kind = .read ∨ kind = .blockRead) ∧ present = false)

/-- PAGE_STORE puts a descriptor's received byte at the next offset of its page and counts it, and changes no other byte;
the byte's end then goes on to the next byte, or to the stop that closes the read OK after the last. A length byte of 1 up
to the read length opens its data bytes, and any other ends BLOCK_LENGTH_BAD. A cut mark not set during the ninth bit ends
the read, ABORTED, after the byte in progress; one set then lets one more byte come. The engine answers a byte with ACK
where another follows and with NACK otherwise (R66, R80, R87, R94, R97). The bytes of a poll, alert or loader read are kept
in the order received and stored in no page (R88, R182). That an offset past 63 wraps in its page is log entry 21, and that
a PAGE_STORE elsewhere, or a BYTE_END before the byte is stored, changes nothing is the model's choice (log entry 2), and so is
that a PAGE_STORE in a hold implies the hold's end, left unsaid by the wires (log entry 13). A
width of 0, of an entry never written, ends after one byte answered NACK: the model's choice (log entry 26). -/
def Obligations.ReceivedBytesAreStoredAndCounted : Prop :=
  ∀ (x : Seg) (ack : Bool) (byte : Byte) (s : State) (it : Item), s.rstnLow = false → s.mem.wf = true →
    (s.seg x).item = some it →
    let g := s.seg x
    let goes := fun (it' : Item) => exec (.byteEnd x ack byte) s = .next (s.setSeg x { g with item := some it' })
    (∀ (kind : Kind) (present : Bool) (index : Word) (w r : Nat) (page : Fin 32),
      it.form = .descriptor kind present index w r (some page) →
      (∀ total, it.phase = .dataIn total → it.point = .bits →
        exec (.byteEnd x ack byte) s = .next s ∧
        ∃ t, exec (.pageStore x byte) s = .next t ∧
          { t with mem := s.mem } = s.setSeg x { g with item := some { it with
            readCount := it.readCount + 1, point := .ninth, hold := none } } ∧
          ∀ a, t.mem.read a = if a = page.val * 64 + it.readCount % 64 then byte else s.mem.read a) ∧
      ((∀ total, it.phase ≠ .dataIn total) ∨ (it.point ≠ .bits) → exec (.pageStore x byte) s = .next s) ∧
      (it.point = .ninth → it.hold = none →
        (∀ total, it.phase = .dataIn total →
          it.answer byte = some (decide (it.readCount < total) && (!it.cut || it.cutLate)) ∧
          (it.cut = true → it.cutLate = false → goes (it.toPhase (.stop (.ended .aborted)) s.tick)) ∧
          (it.cut = false ∨ it.cutLate = true →
            goes (if it.readCount < total then { it.toPhase (.dataIn total) s.tick with cutLate := false }
                  else it.toPhase (.stop (.ended .ok)) s.tick))) ∧
        (kind = .blockRead → it.phase = .lengthByte →
          it.answer byte = some ((decide (1 ≤ byte.toNat) && decide (byte.toNat ≤ r)) && (!it.cut || it.cutLate)) ∧
          (it.cut = true → it.cutLate = false → goes (it.toPhase (.stop (.ended .aborted)) s.tick)) ∧
          (it.cut = false ∨ it.cutLate = true →
            goes (if 1 ≤ byte.toNat ∧ byte.toNat ≤ r then
                    { it.toPhase (.dataIn byte.toNat) s.tick with cutLate := false }
                  else it.toPhase (.stop (.ended .blockLengthBad)) s.tick))))) ∧
    ((∀ kind present index w r page, it.form ≠ .descriptor kind present index w r page) →
      exec (.pageStore x byte) s = .next s ∧
      ∀ total, it.phase = .dataIn total → it.point = .ninth → it.hold = none →
        it.answer byte = some (decide (it.bytes.length + 1 < total)) ∧
        goes ({ it with bytes := it.bytes ++ [byte] }.toPhase
          (if it.bytes.length + 1 < total then .dataIn total else .stop (.ended .ok)) s.tick))

/-- RETRY_GAP_BEGIN opens the gap once the stop before a retry is made, and RETRY_GAP_END, once the gap of the segment (of the
loader, 2 ms) has elapsed, opens the next attempt, counted (R89, R90).
TRANSACTION_END, at a closing stop made for an outcome that is no fault, discards the record, hands out the reports of
Table 5-6 and takes the segment from BUSY to READY or from PAUSING to PAUSED; a loader read reports to the loader and leaves
the segment state (R96, R100). A stop is made with SCLx high: either row implies the end of a hold in it, and TRANSACTION_END
the start or repeated start that a cut let complete, where these were left unsaid (R83, Table 5-7; log entry 13). That the
three change nothing elsewhere or before their time is the model's choice (log entry 2), and that a gap may end at a later
tick is log entry 11. -/
def Obligations.StopsLeadToTheGapOrTheEnd : Prop :=
  ∀ (x : Seg) (s : State) (it : Item), s.rstnLow = false → (s.seg x).item = some it →
    let g := s.seg x
    let gap := if it.supplier = .loader then 2 else g.cfg.retryGap.toNat
    let ripe := it.phase = .gap ∧ gap ≤ (s.tick - it.since).toNat
    (it.phase = .stop .retry → exec (.retryGapBegin x) s = .next (s.setSeg x { g with
      item := some (it.toPhase .gap s.tick) })) ∧
    (it.phase ≠ .stop .retry → exec (.retryGapBegin x) s = .next s) ∧
    (ripe → exec (.retryGapEnd x) s = .next (s.setSeg x { g with
      item := some { it with
        attempts := it.attempts + 1, phase := .opening, bytes := [], second := false, point := .free, since := s.tick
        hold := none } })) ∧
    (¬ ripe → exec (.retryGapEnd x) s = .next s) ∧
    (∀ o, it.phase = .stop (.ended o) → o ≠ .stretchTimeout → o ≠ .busFault →
      (it.supplier ≠ .loader → exec (.transactionEnd x) s =
        .next (s.setSeg x { g.reported it o with state := stateAfterWork g.state })) ∧
      (it.supplier = .loader → exec (.transactionEnd x) s = .next { s.setSeg x { g with item := none } with
        loader := { s.loader with report := some { outcome := o, second := it.second, bytes := it.bytes } } })) ∧
    (it.cut = true → (it.phase = .opening ∧ it.point = .condition) ∨ (it.phase = .restart ∧ it.point = .condition) →
      exec (.transactionEnd x) s = exec (.transactionEnd x) (s.setSeg x { g with
        item := some (it.toPhase (.stop (.ended .aborted)) s.tick) })) ∧
    ((∀ o, it.phase ≠ .stop (.ended o)) → it.cut = false → exec (.transactionEnd x) s = .next s)

/-! ### Recovery (chapter 7) -/

/-- A recovery samples SDAx outside a hold. The opening sample leads to the stop where it is high and to the pulses where it
is low; the sample of a pulse raises the pulse count, and leads to the stop where it is high and to the next pulse, or at
count 9 to failure, where it is low; a stop sampled high succeeds, and one sampled low gives the next pulse, or at count 9
fails. RECOVERY_SUCCEEDED and RECOVERY_FAILED say the samples left, the last of them the one that ends the recovery. A hold is
timed from its own release of SCLx by the stretch timeout read then, and fails past it. Success frees the segment, READY or
PAUSED; failure leaves it HALTED, a pause dropped (R125 to R129, R136). Both lines are released up to the opening sample and in the
hold of a pulse; elsewhere the level changes within a pulse or the stop (log entry 15). So a bus free at the opening needs no pulse, a line
freed by pulse n + 1, at most 9, recovers, and nine low samples fail. That samples and holds between two rows are happenings of
the wires, and the samples left an operand, is the model's (log entries 13 and 14), and that nothing is taken elsewhere or
before its time its choice (log entry 2). -/
def Obligations.RecoverySucceedsOrHalts : Prop :=
  (∀ (x : Seg) (s : State) (r : Recovery), s.rstnLow = false → (s.seg x).item = none → (s.seg x).recovery = some r →
    let g := s.seg x
    let becomes := fun (r' : Recovery) => s.setSeg x { g with recovery := some r' }
    let freed := s.setSeg x { g with
      recovery := none
      state := if g.state = .recovery then .ready else if g.state = .pausingRec then .paused else g.state }
    let halted := s.setSeg x { g with
      recovery := none
      state := if g.state = .recovery ∨ g.state = .pausingRec then .halted else g.state }
    let goesOn := fun (high : Bool) (r' : Recovery) =>
      (r.hold = none → takeWire x (.sampled high) s = becomes r') ∧ ∀ rest, r.run (high :: rest) = r'.run rest
    let ends := fun (high : Bool) (how : RecoveryStep) =>
      takeWire x (.sampled high) s = s ∧ ∀ rest, r.run (high :: rest) = if rest = [] then some how else none
    (∀ samples,
      exec (.recoverySucceeded x samples) s = .next (if r.run samples = some .succeeded then freed else s) ∧
      exec (.recoveryFailed x samples) s = .next (if r.run samples = some .failed then halted else s)) ∧
    r.run [] = some (.on r) ∧
    (linesReleased s x = true ↔ r.stage = .opening ∨ (r.stage = .pulse ∧ r.hold ≠ none)) ∧
    (r.stage = .opening → goesOn true { r with stage := .stop } ∧ goesOn false { r with stage := .pulse }) ∧
    (r.stage = .pulse →
      goesOn true { r with pulses := r.pulses + 1, stage := .stop } ∧
      (r.pulses < 8 → goesOn false { r with pulses := r.pulses + 1 }) ∧ (8 ≤ r.pulses → ends false .failed)) ∧
    (r.stage = .stop →
      ends true .succeeded ∧ (r.pulses < 9 → goesOn false { r with stage := .pulse }) ∧ (9 ≤ r.pulses → ends false .failed)) ∧
    takeWire x .clockHigh s = becomes { r with hold := none } ∧
    (r.hold = none →
      takeWire x .held s = becomes { r with hold := some { since := s.tick, limit := g.cfg.stretch } } ∧
      exec (.recoveryHoldTimeout x) s = .next s) ∧
    (∀ h, r.hold = some h →
      (∀ high, takeWire x (.sampled high) s = s) ∧ takeWire x .held s = s ∧
      (h.limit.toNat < (s.tick - h.since).toNat → exec (.recoveryHoldTimeout x) s = .next halted) ∧
      ((s.tick - h.since).toNat ≤ h.limit.toNat → exec (.recoveryHoldTimeout x) s = .next s))) ∧
  let opened : Recovery := { pulses := 0, stage := .opening, hold := none }
  opened.run [true, true] = some .succeeded ∧
  (∀ n, n < 9 → opened.run (false :: (List.replicate n false ++ [true, true])) = some .succeeded) ∧
  opened.run (false :: List.replicate 9 false) = some .failed ∧
  ∀ samples r, opened.run samples = some (.on r) → r.pulses ≤ 9

/-! ### Configuration load and resets (chapter 11) -/

/-- LOADER_READ_REPORT during a load takes the engine's report. A read that did not end OK fails the load, MEMORY_ABSENT for
a first read whose first address was never acknowledged and BUS otherwise. An OK read adds its bytes and the records they
complete are checked: the load then reads the next piece, fails, or commits. A failure discards the shadow tables, keeps the
live ones and sets LOAD_FAIL (R182, R183, R187, R188). That the list bytes, the model's own field, go too is log entry 27.
The record at the record offset is checked as its bytes come, in the order of R184: OVERLONG, BAD_TYPE, BAD_LENGTH, OVERLONG,
then the 16-bit sum of the bytes up to the length byte of END against the two bytes after it (R186), or the body; a record
that passes goes into the shadow tables, good records goes up by 1 and the next record is checked. The body is read by Table
12-12 and checked in the order of Table 11-1 (R185, R197).
LOADSTAT shows load state, reason, good records and record offset (R180, Table 12-9). -/
def Obligations.LoaderReadReportMovesTheLoad : Prop :=
  (∀ (s : State) (r : LoaderReport), s.rstnLow = false → s.loader.state = .loading → s.loader.report = some r →
    let l := { s.loader with report := none, bytes := s.loader.bytes ++ r.bytes }
    let failed := fun (reason : LoadReason) (offset good : Nat) => ({ s with
      loader := { state := .failed, reason := reason, offset := offset, good := good, bytes := []
                  shadow := shadowUnwritten, report := none }
      latched := s.latched ||| 0x0100 } : State)
    (r.outcome ≠ .ok → exec .loaderReadReport s = .next (failed
      (if s.loader.bytes = [] ∧ r.outcome = .nackAddress ∧ r.second = false then .memoryAbsent else .bus)
      s.loader.offset s.loader.good)) ∧
    (r.outcome = .ok →
      (∀ reason m, walk (l.bytes.length + 1) l = .failed reason m →
        exec .loaderReadReport s = .next (failed reason m.offset m.good)) ∧
      (∀ m, walk (l.bytes.length + 1) l = .more m → exec .loaderReadReport s = .next { s with
        loader := m, segA := { s.segA with item := some (loaderRecord s.cfgadr m.bytes.length s.tick) } }) ∧
      (∀ m, walk (l.bytes.length + 1) l = .good m → exec .loaderReadReport s = .next (commit s m)))) ∧
  (∀ (l : Loader) (fuel : Nat), l.bytes.length < fuel → walk fuel l = walk (l.bytes.length + 1) l) ∧
  (∀ (l : Loader) (fuel : Nat),
    let at_ := fun (n : Nat) => l.bytes.getD n 0
    let p := l.offset
    let n := l.bytes.length
    let code := at_ p
    let record := code = 0x01 ∨ code = 0x02 ∨ code = 0x03 ∨ code = 0x04
    let len := if code = 0x01 ∨ code = 0x02 then 8 else if code = 0x03 then 16 else if code = 0x04 then 4 else 0
    walk (fuel + 1) l =
      if 4092 < p then .failed .overlong l
      else if n ≤ p then .more l
      else if ¬ (record ∨ code = 0xFF) then .failed .badType l
      else if n ≤ p + 1 then .more l
      else if (at_ (p + 1)).toNat ≠ len then .failed .badLength l
      else if code = 0xFF then
        if n ≤ p + 3 then .more l
        else if at_ (p + 2) ++ at_ (p + 3) = BitVec.ofNat 16 ((l.bytes.take (p + 2)).map BitVec.toNat).sum then .good l
        else .failed .checksum l
      else if 4091 < p + 1 + len then .failed .overlong l
      else if n < p + 2 + len then .more l
      else
        match checkBody l.shadow code ((l.bytes.drop (p + 2)).take len) with
        | .error reason => .failed reason l
        | .ok sh => walk fuel { l with shadow := sh, good := l.good + 1, offset := p + 2 + len }) ∧
  (∀ (sh : Shadow) (b : List Byte),
    let at_ := fun (n : Nat) => b.getD n 0
    let word := fun (n : Nat) => at_ n ++ at_ (n + 1)
    let flag := fun (n : Nat) => at_ n = 0x00 ∨ at_ n = 0x01
    let x := if at_ 0 = 0x01 then Seg.b else Seg.a
    let legal := flag 0 ∧ flag 5 ∧ flag 7 ∧ at_ 1 ≠ 0 ∧ at_ 2 ≠ 0 ∧ (at_ 3).toNat ≤ 15 ∧ 1 ≤ (at_ 4).toNat ∧
      (at_ 4).toNat ≤ 8 ∧ at_ 6 ≠ 0
    let c : SegConfig × Bool :=
      ({ busFree := at_ 1, stretch := at_ 2, retryGap := (at_ 3).setWidth 4, pollShare := (at_ 4).setWidth 4
         alertEnable := decide (at_ 5 = 0x01), holdoff := at_ 6 }, decide (at_ 7 = 0x01))
    (¬ legal → checkBody sh 0x01 b = .error .badField) ∧
    (legal → (sh.seg x).isSome = true → checkBody sh 0x01 b = .error .duplicate) ∧
    (legal → sh.seg x = none → checkBody sh 0x01 b =
      .ok (if x = Seg.a then { sh with segA := some c } else { sh with segB := some c })) ∧
    (let place := if at_ 1 = 0x01 then Seg.b else Seg.a
     let fields := targetConfig place (at_ 2) (at_ 3) ((at_ 4).setWidth 4) (at_ 7) (word 5)
     let ranges := flag 1 ∧ (at_ 0).toNat ≤ 31 ∧ (at_ 4).toNat ≤ 15
     (¬ ranges ∨ fields = none → checkBody sh 0x02 b = .error .badField) ∧
     ∀ t, ranges → fields = some t →
       let taken := (sh.targets.get (idx32 (at_ 0).toNat)).isSome = true ∨
         ∃ j u, sh.targets.get j = some u ∧ u.segment = t.segment ∧ u.address = t.address
       (taken → checkBody sh 0x02 b = .error .duplicate) ∧
       (¬ taken → checkBody sh 0x02 b = .ok { sh with targets := vset sh.targets (idx32 (at_ 0).toNat) (some t) })) ∧
    (let fields := pollConfig (word 2) (word 4) (word 6) (word 8) (word 10) (word 12) (word 14)
     let ranges := flag 1 ∧ (at_ 0).toNat ≤ 23
     (¬ ranges ∨ fields = none → checkBody sh 0x03 b = .error .badField) ∧
     ∀ q, ranges → fields = some q →
       ((sh.polls.get (idx24 (at_ 0).toNat)).isSome = true → checkBody sh 0x03 b = .error .duplicate) ∧
       (sh.polls.get (idx24 (at_ 0).toNat) = none →
         (sh.targets.get q.target = none → checkBody sh 0x03 b = .error .undefinedTarget) ∧
         ∀ t, sh.targets.get q.target = some t →
           checkBody sh 0x03 b =
             if at_ 1 = 0x01 ∧ t.width = 1 ∧ 0xFF < q.register.toNat then .error .badField
             else .ok { sh with
               polls := vset sh.polls (idx24 (at_ 0).toNat) (some (q, decide (at_ 1 = 0x01))) })) ∧
    (let ranges := (at_ 2 = 0x00 ∨ at_ 2 = 0x80) ∧ 1 ≤ (at_ 3).toNat ∧ (at_ 3).toNat ≤ 32
     (¬ ranges → checkBody sh 0x04 b = .error .badField) ∧
     (ranges → sh.events.isSome = true → checkBody sh 0x04 b = .error .duplicate) ∧
     (ranges → sh.events = none → checkBody sh 0x04 b = .ok { sh with
       events := some {
         mask := word 0 &&& 0x3FFF, mode := if at_ 2 = 0x80 then ClearMode.readClears else ClearMode.writeOne
         watermark := (at_ 3).setWidth 6 } }))) ∧
  ∀ s : State, s.loader.good ≤ 255 → s.loader.offset ≤ 4095 →
    ((window s 0x04).extractLsb' 13 3).toNat = s.loader.state.number ∧
    ((window s 0x04).extractLsb' 8 4).toNat = s.loader.reason.number ∧ (window s 0x04).getLsbD 12 = false ∧
    ((window s 0x04).extractLsb' 0 8).toNat = s.loader.good ∧ (window s 0x05).toNat = s.loader.offset

/-- The commit of a good list stores every written shadow entry whole: targets UNKNOWN with their dynamic fields 0, polls
enabled where marked with next-due tick the present tick plus the phase, reference counts the number of enabled polls that
name each target, segments READY with streak 0 where marked, the event settings, load state DONE and LOADED; the rest of
the part stands but that resolvers which begin to watch look at their lines (R23, R158, R179, R188). That the shadow tables
and the list bytes are empty afterwards is the model's choice (log entry 27). -/
def Obligations.CommitStoresTheShadowTables : Prop :=
  ∀ (s : State) (l : Loader), LoadQuiet s → s.loader.state = .loading →
    ∃ u : State, commit s l = lookAtLine .b (lookAtLine .a u) ∧
      (∀ i, u.poll i = match l.shadow.polls.get i with
        | some (c, true) => { s.poll i with
            cfg := c, enabled := true, nextDue := s.tick + c.phase.setWidth 32, owed := .nothing, valid := false
            alarm := .normal, misses := 0, overruns := 0 }
        | some (c, false) => { s.poll i with cfg := c }
        | none => s.poll i) ∧
      (∀ i, u.target i = match l.shadow.targets.get i with
        | some c => { cfg := c, state := .unknown, failures := 0, refs := enabledOn u.polls i, alerting := false
                      alertValue := 0, alertValid := false, lastSeen := 0 }
        | none => { s.target i with refs := enabledOn u.polls i }) ∧
      (∀ x, u.seg x = match l.shadow.seg x with
        | some (c, true) => { s.seg x with cfg := c, state := .ready, streak := 0 }
        | some (c, false) => { s.seg x with cfg := c }
        | none => s.seg x) ∧
      (u.mask, u.clearMode, u.watermark) = (match l.shadow.events with
        | some e => (e.mask, e.mode, e.watermark)
        | none => (s.mask, s.clearMode, s.watermark)) ∧
      u.loader = { state := .done, reason := .none, offset := l.offset, good := l.good, bytes := []
                   shadow := shadowUnwritten, report := l.report } ∧
      { u with polls := s.polls, targets := s.targets, segA := s.segA, segB := s.segB, mask := s.mask
               clearMode := s.clearMode, watermark := s.watermark, loader := s.loader } =
        { s with latched := s.latched ||| 0x0080 }

/-- SOFT_RESET cuts all work without a report, empties queues and ring, returns every page, makes enabled segments READY and
non-VACANT targets UNKNOWN, recounts references, resets the polls' dynamic fields with next-due ticks set afresh, and clears
the latched flags; configuration, page bytes, pointer, mask, clear mode, watermark, tick, load status and staging stay, and
the resolvers then watch afresh (R22, R46, R61, R74, R119, R158, R168, R179, R190). -/
def Obligations.SoftResetClearsWorkAndKeepsConfiguration : Prop :=
  ∀ (arg : Byte) (s : State), HostReady s →
    ∃ u : State, exec (.softReset arg) s = .next ((lookAtLine .b (lookAtLine .a u)).done 0x30 arg) ∧
      (∀ x, u.seg x = (s.seg x).cleared (if (s.seg x).state = .disabled then .disabled else .ready)) ∧
      (∀ i, u.target i = { s.target i with
        state := if (s.target i).state = .vacant then .vacant else .unknown
        failures := 0, refs := enabledOn s.polls i, alerting := false, alertValue := 0, alertValid := false }) ∧
      (∀ i, u.poll i = { s.poll i with
        nextDue := s.tick + (s.poll i).cfg.phase.setWidth 32, owed := .nothing, lastValue := 0, valid := false
        alarm := .normal, misses := 0, overruns := 0, flag := false, mark := .none }) ∧
      { u with segA := s.segA, segB := s.segB, targets := s.targets, polls := s.polls } =
        { s with cmd := wordOf 0x30 arg, ring := [], holders := Vector.replicate 32 none, latched := 0 }

/-- RELOAD clears work and configuration, every target VACANT, every poll all 0, both segments as after power-on, the event
settings as after power-on, and begins the load with a read of offset 0 at the address of the strap pins; page bytes,
pointer, tick, capture, staging and the pins stay (R189, R119, R158, R168, R179, R182). That the resolvers do not look at
their lines on the way, so that no latched flag is left set, is DEDUCED by the model (log entry 24). -/
def Obligations.ReloadClearsAndBeginsTheLoad : Prop :=
  ∀ (arg : Byte) (s : State), HostReady s →
    exec (.reload arg) s = .next (State.done { s with
      targets := Vector.replicate 32 targetAtPowerOn, polls := Vector.replicate 24 pollAtPowerOn
      holders := Vector.replicate 32 none, ring := [], latched := 0, mask := 0, clearMode := .writeOne, watermark := 1
      segB := segmentAtPowerOn s.segB.alertLow
      segA := { segmentAtPowerOn s.segA.alertLow with item := some (loaderRecord s.cfgadr 0 s.tick) }
      loader := loaderBegun } 0x31 arg)

/-- POWER_ON_RESET leaves every block at its power-on values, samples the straps, leaves the ALERT pins to the board, and with
CFGEN high begins the load at 50H plus CFGADR (R181, R191, R198). RSTN_LOW cuts whatever was in progress; while RSTn is low
INTn is high, the lines are released and nothing else is taken, which is the model's choice (log entry 3). An engine with no work item and no recovery has both lines
released (R75, R103, R130). -/
def Obligations.PowerOnResetAndRstnLow : Prop :=
  ∀ (s : State),
    (∀ cfgadr fsel,
      let reset := fun (cfgen : Bool) =>
        partAtPowerOn cfgen cfgadr fsel s.segA.alertLow s.segB.alertLow s.pending s.wires
      exec (.powerOnReset false cfgadr fsel) s = .next (reset false) ∧
      exec (.powerOnReset true cfgadr fsel) s = .next { reset true with
        segA := { (reset true).segA with item := some (loaderRecord cfgadr 0 0) }
        loader := loaderBegun }) ∧
    (∃ t, exec .rstnLow s = .next t ∧ t.rstnLow = true ∧ intnHigh t = true ∧ ∀ x, linesReleased t x = true ∧
      (t.seg x).item = none ∧ (t.seg x).recovery = none) ∧
    (∀ x, (s.seg x).item = none → (s.seg x).recovery = none → linesReleased s x = true) ∧
    ∀ (c : Instr) (t : State), s.rstnLow = true → exec c s = .next t →
      t = s ∨ (∃ x low, c = .alertLineChange x low ∧ t = s.setSeg x { s.seg x with alertLow := low }) ∨
      c = .rstnLow ∨ ∃ cfgen cfgadr fsel, c = .powerOnReset cfgen cfgadr fsel

/-! ### Host accesses that are no commands (chapters 4, 6, 10, 12) -/

/-- PAGEPTR takes a page and an offset. A PAGEDATA access to a page of the host reads its byte or stores one, and to a lent
page reads 0000H or is discarded with CONFLICT; either way the offset advances by 1, from 63 to 0, and nothing else changes
(R67, R68, R69, R70). PAGEPTR reads back at the positions of Table 12-9, PAGEDATA shows the byte at the pointer or
0000H, and PAGELENT_LO and PAGELENT_HI show which pages are lent, page n at bit n and page 16 + n at bit n (R67, R72). -/
def Obligations.PagePortReadsAndStores : Prop :=
  (∀ s : State, (window s 0x34).extractLsb' 8 5 = s.ptrPage ∧ (window s 0x34).extractLsb' 0 6 = s.ptrOffset ∧
    window s 0x34 &&& 0xE0C0 = 0 ∧
    (window s 0x35 = if (s.holders.get (idx32 s.ptrPage.toNat)).isSome = true then 0x0000
      else (s.mem.read (s.ptrPage.toNat * 64 + s.ptrOffset.toNat)).setWidth 16) ∧
    ∀ p : Fin 32, (s.holders.get p).isSome =
      if p.val < 16 then (window s 0x36).getLsbD p.val else (window s 0x37).getLsbD (p.val - 16)) ∧
  ∀ (w : Word) (s : State), s.rstnLow = false → s.mem.wf = true →
    let page := idx32 s.ptrPage.toNat
    let at_ := s.ptrPage.toNat * 64 + s.ptrOffset.toNat
    let moved := { s with ptrOffset := s.ptrOffset + 1 }
    exec (.pagePtrWrite w) s = .next { s with ptrPage := w.extractLsb' 8 5, ptrOffset := w.extractLsb' 0 6 } ∧
    (s.holders.get page = none →
      exec .pageDataRead s = .next { moved with lastRead := (s.mem.read at_).setWidth 16 } ∧
      ∃ t, exec (.pageDataWrite w) s = .next t ∧ { t with mem := s.mem } = moved ∧
        ∀ a, t.mem.read a = if a = at_ then w.setWidth 8 else s.mem.read a) ∧
    ((s.holders.get page).isSome = true →
      exec .pageDataRead s = .next { moved with lastRead := 0, latched := s.latched ||| 0x0004 } ∧
      exec (.pageDataWrite w) s = .next { moved with latched := s.latched ||| 0x0004 })

/-- TICK_LO returns the low half of the count and captures the high half of that same count, which TICK_HI returns until the
next read of TICK_LO or power-on reset, which sets it to 0000H; host writes to both are ignored (R121). -/
def Obligations.TickReadCapturesTheHighHalf : Prop :=
  ∀ (s : State), s.rstnLow = false →
    ∃ t, exec .tickLoRead s = .next t ∧ t.capture ++ t.lastRead = s.tick ∧ window t 0x08 = t.capture ∧
      { t with capture := s.capture, lastRead := s.lastRead } = s ∧
      (∀ (c : Instr) (u : State), exec c t = .next u → c ≠ .tickLoRead →
        (∀ cfgen cfgadr fsel, c ≠ .powerOnReset cfgen cfgadr fsel) → window u 0x08 = t.capture) ∧
      (∀ cfgen cfgadr fsel, ∃ u, exec (.powerOnReset cfgen cfgadr fsel) t = .next u ∧ window u 0x08 = 0x0000) ∧
      ∀ w, exec (.registerWrite 0x07 w) s = .next s ∧ exec (.registerWrite 0x08 w) s = .next s

/-- A read of EVENT returns the pending state of the causes at their positions, and under READ_CLEARS clears exactly the
latched flags it returned; a write of EVENT under WRITE_ONE clears exactly the flags written 1, and under READ_CLEARS is
ignored; level causes follow their conditions and no access clears them. INTn is low exactly while some cause is both
pending and unmasked (R170, R171, R172, R177, Table 12-11). COMPLETE holds while the ring count has reached the watermark or
an entry with notify is held, and ALARM while some alarm flag is set (R59, R156). -/
def Obligations.EventReadsAndWritesActByTheClearMode : Prop :=
  (∀ s : State,
    (completeCondition s = true ↔ s.watermark.toNat ≤ s.ring.length ∨ ∃ e ∈ s.ring, e.notify = true) ∧
    (alarmCondition s = true ↔ ∃ i, (s.poll i).flag = true)) ∧
  ∀ (w : Word) (s : State), s.rstnLow = false →
    (∀ n : Nat, (eventWord s).getLsbD n =
      if n = 1 then completeCondition s else if n = 3 then alarmCondition s
      else if n = 12 then decide (s.segA.state = .halted) else if n = 13 then decide (s.segB.state = .halted)
      else (decide (n < 12) && s.latched.getLsbD n)) ∧
    (s.clearMode = .writeOne →
      exec .eventRead s = .next { s with lastRead := eventWord s } ∧
      exec (.eventWrite w) s = .next { s with latched := s.latched &&& ~~~ w }) ∧
    (s.clearMode = .readClears →
      exec (.eventWrite w) s = .next s ∧
      ∃ t, exec .eventRead s = .next t ∧ t.lastRead = eventWord s ∧
        { t with latched := s.latched, lastRead := s.lastRead } = s ∧
        ∀ n, t.latched.getLsbD n = (s.latched.getLsbD n && !(eventWord s).getLsbD n)) ∧
    (intnHigh s = false ↔ ∃ n, (eventWord s).getLsbD n = true ∧ s.mask.getLsbD n = true)

/-- EVMASK stores the fourteen enables; EVCTRL stores clear mode and watermark where the watermark is 1..32 and is ignored
whole otherwise; a write of ALARM_LO or ALARM_HI clears the flags written 1 of entries 0..15 or 16..23 and leaves the
others (R157, R175, R176).
A write to a staging register stores the bits that hold its fields, and a write to a read-only register or an unused
address is ignored; every other word of the window reads as before and no other state changes (R192, R194). Which bits hold
fields is Tables 12-4 to 12-7, address by address.
EVMASK and EVCTRL read back, and ALARM_LO and ALARM_HI show the alarm flags, entry n at bit n and entry 16 + n at bit n, bits
15..8 of ALARM_HI 0 (R157, R175, R176, Table 12-9).
In every state the window shows, at the addresses of Table 12-1, ID, REV, CMD, CMDRES, the low half of the tick, its captured
high half, the pending causes, and DS0..DS4, TS0..TS5, PS0..PS7 and SS0..SS2 as SUBMIT, TGT_WRITE, POLL_WRITE and SEG_WRITE
take them; spare and unused addresses read 0000H. A host write or read at an address is the row of its register, and only
reads of TICK_LO, EVENT and PAGEDATA have a row (R192; that rows carry host accesses is log entry 17). -/
def Obligations.PlainRegistersAreWritten : Prop :=
  (∀ s : State,
    (window s 0x00 = 0x2340 ∧ window s 0x01 = 0x0001 ∧ window s 0x02 = s.cmd ∧ window s 0x03 = s.cmdres ∧
      window s 0x07 = s.tick.setWidth 16 ∧ window s 0x08 = s.capture ∧ window s 0x09 = eventWord s) ∧
    (∀ n : Fin 5, window s (0x11#6 + BitVec.ofNat 6 n.val) = s.ds.get n) ∧
    (∀ n : Fin 6, window s (0x20#6 + BitVec.ofNat 6 n.val) = s.ts.get n) ∧
    (∀ n : Fin 8, window s (0x28#6 + BitVec.ofNat 6 n.val) = s.ps.get n) ∧
    (∀ n : Fin 3, window s (0x30#6 + BitVec.ofNat 6 n.val) = s.ss.get n) ∧
    ∀ addr : BitVec 6, addr ∈ ([0x06, 0x16, 0x17, 0x1D, 0x1E, 0x1F, 0x26, 0x27, 0x33, 0x3A, 0x3B, 0x3C, 0x3D, 0x3E, 0x3F] :
      List (BitVec 6)) → window s addr = 0x0000) ∧
  (∀ (addr : BitVec 6) (w : Word), hostWrite addr w =
    if addr = 0x02 then commandOf w else if addr = 0x09 then .eventWrite w else if addr = 0x0A then .evMaskWrite w
    else if addr = 0x0B then .evCtrlWrite w else if addr = 0x0C then .alarmFlagsWrite false w
    else if addr = 0x0D then .alarmFlagsWrite true w else if addr = 0x34 then .pagePtrWrite w
    else if addr = 0x35 then .pageDataWrite w else .registerWrite addr w) ∧
  (∀ addr : BitVec 6, hostRead addr =
    if addr = 0x07 then some .tickLoRead else if addr = 0x09 then some .eventRead
    else if addr = 0x35 then some .pageDataRead else none) ∧
  (∀ s : State, window s 0x0A = s.mask ∧ (window s 0x0B).getLsbD 15 = decide (s.clearMode = .readClears) ∧
    (window s 0x0B).extractLsb' 0 6 = s.watermark ∧ window s 0x0B &&& 0x7FC0 = 0 ∧ window s 0x0D &&& 0xFF00 = 0 ∧
    ∀ i : Fin 24, (s.poll i).flag =
      if i.val < 16 then (window s 0x0C).getLsbD i.val else (window s 0x0D).getLsbD (i.val - 16)) ∧
  (∀ (w : Word) (s : State), s.rstnLow = false →
    exec (.evMaskWrite w) s = .next { s with mask := w &&& 0x3FFF } ∧
    (1 ≤ (w.extractLsb' 0 6).toNat ∧ (w.extractLsb' 0 6).toNat ≤ 32 →
      exec (.evCtrlWrite w) s = .next { s with
        clearMode := if w.getLsbD 15 = true then ClearMode.readClears else ClearMode.writeOne
        watermark := w.extractLsb' 0 6 }) ∧
    (¬ (1 ≤ (w.extractLsb' 0 6).toNat ∧ (w.extractLsb' 0 6).toNat ≤ 32) → exec (.evCtrlWrite w) s = .next s) ∧
    ∀ hi : Bool, ∃ t, exec (.alarmFlagsWrite hi w) s = .next t ∧ { t with polls := s.polls } = s ∧
      ∀ i : Fin 24, t.poll i = { s.poll i with
        flag := (s.poll i).flag && !(if hi = true then decide (16 ≤ i.val) && w.getLsbD (i.val - 16)
                                     else w.getLsbD i.val) }) ∧
  ∀ (addr : BitVec 6) (w : Word) (s : State), s.rstnLow = false →
    addr ∉ ([0x02, 0x09, 0x0A, 0x0B, 0x0C, 0x0D, 0x34, 0x35] : List (BitVec 6)) →
    ∃ t, exec (.registerWrite addr w) s = .next t ∧
      { t with ds := s.ds, ts := s.ts, ps := s.ps, ss := s.ss } = s ∧
      (stagedBits addr = 0 → t = s) ∧ (stagedBits addr ≠ 0 → window t addr = w &&& stagedBits addr) ∧
      ∀ other, other ≠ addr → window t other = window s other
end

