-- ==== Sys2Proof/Laws/State.lean ====
section
/-! SUPPORT. One lemma per field per named update of State: what the shared operations write and what they leave. -/

namespace Sys2Proof.Machine

/-! ### Reading a segment back -/

@[simp] theorem State.seg_a (s : State) : s.seg .a = s.segA := rfl
@[simp] theorem State.seg_b (s : State) : s.seg .b = s.segB := rfl

/-- A segment depends on the two segment fields alone. -/
theorem State.seg_congr {s t : State} (ha : t.segA = s.segA) (hb : t.segB = s.segB) (x : Seg) : t.seg x = s.seg x := by
  cases x <;> assumption

@[simp] theorem State.seg_setSeg_same (s : State) (x : Seg) (g : Segment) : (s.setSeg x g).seg x = g := by
  cases x <;> rfl

theorem State.seg_setSeg_other (s : State) {x y : Seg} (g : Segment) (h : y ≠ x) : (s.setSeg x g).seg y = s.seg y := by
  cases x <;> cases y <;> first | rfl | exact absurd rfl h

theorem State.seg_setSeg (s : State) (x y : Seg) (g : Segment) :
    (s.setSeg x g).seg y = if y = x then g else s.seg y := by
  cases x <;> cases y <;> rfl

@[simp] theorem State.setSeg_self (s : State) (x : Seg) : s.setSeg x (s.seg x) = s := by cases x <;> rfl

@[simp] theorem State.setSeg_setSeg (s : State) (x : Seg) (g h : Segment) : (s.setSeg x g).setSeg x h = s.setSeg x h := by
  cases x <;> rfl

/-- Changing a segment is storing the changed segment. -/
theorem State.updSeg_eq (s : State) (x : Seg) (f : Segment → Segment) : s.updSeg x f = s.setSeg x (f (s.seg x)) := rfl

@[simp] theorem State.seg_updSeg_same (s : State) (x : Seg) (f : Segment → Segment) : (s.updSeg x f).seg x = f (s.seg x) := by
  cases x <;> rfl

theorem State.seg_updSeg_other (s : State) {x y : Seg} (f : Segment → Segment) (h : y ≠ x) :
    (s.updSeg x f).seg y = s.seg y := s.seg_setSeg_other _ h

/-! ### Segment updates -/

@[simp] theorem State.setSeg_rstnLow (s : State) (x : Seg) (g : Segment) : (s.setSeg x g).rstnLow = s.rstnLow := by cases x <;> rfl
@[simp] theorem State.setSeg_cfgen (s : State) (x : Seg) (g : Segment) : (s.setSeg x g).cfgen = s.cfgen := by cases x <;> rfl
@[simp] theorem State.setSeg_cfgadr (s : State) (x : Seg) (g : Segment) : (s.setSeg x g).cfgadr = s.cfgadr := by cases x <;> rfl
@[simp] theorem State.setSeg_fsel (s : State) (x : Seg) (g : Segment) : (s.setSeg x g).fsel = s.fsel := by cases x <;> rfl
@[simp] theorem State.setSeg_cmd (s : State) (x : Seg) (g : Segment) : (s.setSeg x g).cmd = s.cmd := by cases x <;> rfl
@[simp] theorem State.setSeg_cmdres (s : State) (x : Seg) (g : Segment) : (s.setSeg x g).cmdres = s.cmdres := by cases x <;> rfl
@[simp] theorem State.setSeg_ds (s : State) (x : Seg) (g : Segment) : (s.setSeg x g).ds = s.ds := by cases x <;> rfl
@[simp] theorem State.setSeg_ts (s : State) (x : Seg) (g : Segment) : (s.setSeg x g).ts = s.ts := by cases x <;> rfl
@[simp] theorem State.setSeg_ps (s : State) (x : Seg) (g : Segment) : (s.setSeg x g).ps = s.ps := by cases x <;> rfl
@[simp] theorem State.setSeg_ss (s : State) (x : Seg) (g : Segment) : (s.setSeg x g).ss = s.ss := by cases x <;> rfl
@[simp] theorem State.setSeg_ptrPage (s : State) (x : Seg) (g : Segment) : (s.setSeg x g).ptrPage = s.ptrPage := by cases x <;> rfl
@[simp] theorem State.setSeg_ptrOffset (s : State) (x : Seg) (g : Segment) : (s.setSeg x g).ptrOffset = s.ptrOffset := by cases x <;> rfl
@[simp] theorem State.setSeg_capture (s : State) (x : Seg) (g : Segment) : (s.setSeg x g).capture = s.capture := by cases x <;> rfl
@[simp] theorem State.setSeg_lastRead (s : State) (x : Seg) (g : Segment) : (s.setSeg x g).lastRead = s.lastRead := by cases x <;> rfl
@[simp] theorem State.setSeg_targets (s : State) (x : Seg) (g : Segment) : (s.setSeg x g).targets = s.targets := by cases x <;> rfl
@[simp] theorem State.setSeg_mem (s : State) (x : Seg) (g : Segment) : (s.setSeg x g).mem = s.mem := by cases x <;> rfl
@[simp] theorem State.setSeg_holders (s : State) (x : Seg) (g : Segment) : (s.setSeg x g).holders = s.holders := by cases x <;> rfl
@[simp] theorem State.setSeg_ring (s : State) (x : Seg) (g : Segment) : (s.setSeg x g).ring = s.ring := by cases x <;> rfl
@[simp] theorem State.setSeg_polls (s : State) (x : Seg) (g : Segment) : (s.setSeg x g).polls = s.polls := by cases x <;> rfl
@[simp] theorem State.setSeg_grants (s : State) (x : Seg) (g : Segment) : (s.setSeg x g).grants = s.grants := by cases x <;> rfl
@[simp] theorem State.setSeg_latched (s : State) (x : Seg) (g : Segment) : (s.setSeg x g).latched = s.latched := by cases x <;> rfl
@[simp] theorem State.setSeg_mask (s : State) (x : Seg) (g : Segment) : (s.setSeg x g).mask = s.mask := by cases x <;> rfl
@[simp] theorem State.setSeg_clearMode (s : State) (x : Seg) (g : Segment) : (s.setSeg x g).clearMode = s.clearMode := by cases x <;> rfl
@[simp] theorem State.setSeg_watermark (s : State) (x : Seg) (g : Segment) : (s.setSeg x g).watermark = s.watermark := by cases x <;> rfl
@[simp] theorem State.setSeg_tick (s : State) (x : Seg) (g : Segment) : (s.setSeg x g).tick = s.tick := by cases x <;> rfl
@[simp] theorem State.setSeg_loader (s : State) (x : Seg) (g : Segment) : (s.setSeg x g).loader = s.loader := by cases x <;> rfl
@[simp] theorem State.setSeg_pending (s : State) (x : Seg) (g : Segment) : (s.setSeg x g).pending = s.pending := by cases x <;> rfl
@[simp] theorem State.setSeg_wires (s : State) (x : Seg) (g : Segment) : (s.setSeg x g).wires = s.wires := by cases x <;> rfl
@[simp] theorem State.updSeg_rstnLow (s : State) (x : Seg) (f : Segment → Segment) : (s.updSeg x f).rstnLow = s.rstnLow := by cases x <;> rfl
@[simp] theorem State.updSeg_cfgen (s : State) (x : Seg) (f : Segment → Segment) : (s.updSeg x f).cfgen = s.cfgen := by cases x <;> rfl
@[simp] theorem State.updSeg_cfgadr (s : State) (x : Seg) (f : Segment → Segment) : (s.updSeg x f).cfgadr = s.cfgadr := by cases x <;> rfl
@[simp] theorem State.updSeg_fsel (s : State) (x : Seg) (f : Segment → Segment) : (s.updSeg x f).fsel = s.fsel := by cases x <;> rfl
@[simp] theorem State.updSeg_cmd (s : State) (x : Seg) (f : Segment → Segment) : (s.updSeg x f).cmd = s.cmd := by cases x <;> rfl
@[simp] theorem State.updSeg_cmdres (s : State) (x : Seg) (f : Segment → Segment) : (s.updSeg x f).cmdres = s.cmdres := by cases x <;> rfl
@[simp] theorem State.updSeg_ds (s : State) (x : Seg) (f : Segment → Segment) : (s.updSeg x f).ds = s.ds := by cases x <;> rfl
@[simp] theorem State.updSeg_ts (s : State) (x : Seg) (f : Segment → Segment) : (s.updSeg x f).ts = s.ts := by cases x <;> rfl
@[simp] theorem State.updSeg_ps (s : State) (x : Seg) (f : Segment → Segment) : (s.updSeg x f).ps = s.ps := by cases x <;> rfl
@[simp] theorem State.updSeg_ss (s : State) (x : Seg) (f : Segment → Segment) : (s.updSeg x f).ss = s.ss := by cases x <;> rfl
@[simp] theorem State.updSeg_ptrPage (s : State) (x : Seg) (f : Segment → Segment) : (s.updSeg x f).ptrPage = s.ptrPage := by cases x <;> rfl
@[simp] theorem State.updSeg_ptrOffset (s : State) (x : Seg) (f : Segment → Segment) : (s.updSeg x f).ptrOffset = s.ptrOffset := by cases x <;> rfl
@[simp] theorem State.updSeg_capture (s : State) (x : Seg) (f : Segment → Segment) : (s.updSeg x f).capture = s.capture := by cases x <;> rfl
@[simp] theorem State.updSeg_lastRead (s : State) (x : Seg) (f : Segment → Segment) : (s.updSeg x f).lastRead = s.lastRead := by cases x <;> rfl
@[simp] theorem State.updSeg_targets (s : State) (x : Seg) (f : Segment → Segment) : (s.updSeg x f).targets = s.targets := by cases x <;> rfl
@[simp] theorem State.updSeg_mem (s : State) (x : Seg) (f : Segment → Segment) : (s.updSeg x f).mem = s.mem := by cases x <;> rfl
@[simp] theorem State.updSeg_holders (s : State) (x : Seg) (f : Segment → Segment) : (s.updSeg x f).holders = s.holders := by cases x <;> rfl
@[simp] theorem State.updSeg_ring (s : State) (x : Seg) (f : Segment → Segment) : (s.updSeg x f).ring = s.ring := by cases x <;> rfl
@[simp] theorem State.updSeg_polls (s : State) (x : Seg) (f : Segment → Segment) : (s.updSeg x f).polls = s.polls := by cases x <;> rfl
@[simp] theorem State.updSeg_grants (s : State) (x : Seg) (f : Segment → Segment) : (s.updSeg x f).grants = s.grants := by cases x <;> rfl
@[simp] theorem State.updSeg_latched (s : State) (x : Seg) (f : Segment → Segment) : (s.updSeg x f).latched = s.latched := by cases x <;> rfl
@[simp] theorem State.updSeg_mask (s : State) (x : Seg) (f : Segment → Segment) : (s.updSeg x f).mask = s.mask := by cases x <;> rfl
@[simp] theorem State.updSeg_clearMode (s : State) (x : Seg) (f : Segment → Segment) : (s.updSeg x f).clearMode = s.clearMode := by cases x <;> rfl
@[simp] theorem State.updSeg_watermark (s : State) (x : Seg) (f : Segment → Segment) : (s.updSeg x f).watermark = s.watermark := by cases x <;> rfl
@[simp] theorem State.updSeg_tick (s : State) (x : Seg) (f : Segment → Segment) : (s.updSeg x f).tick = s.tick := by cases x <;> rfl
@[simp] theorem State.updSeg_loader (s : State) (x : Seg) (f : Segment → Segment) : (s.updSeg x f).loader = s.loader := by cases x <;> rfl
@[simp] theorem State.updSeg_pending (s : State) (x : Seg) (f : Segment → Segment) : (s.updSeg x f).pending = s.pending := by cases x <;> rfl
@[simp] theorem State.updSeg_wires (s : State) (x : Seg) (f : Segment → Segment) : (s.updSeg x f).wires = s.wires := by cases x <;> rfl

/-! ### Target entries -/

@[simp] theorem State.setTarget_rstnLow (s : State) (i : Fin 32) (t : Target) : (s.setTarget i t).rstnLow = s.rstnLow := rfl
@[simp] theorem State.setTarget_cfgen (s : State) (i : Fin 32) (t : Target) : (s.setTarget i t).cfgen = s.cfgen := rfl
@[simp] theorem State.setTarget_cfgadr (s : State) (i : Fin 32) (t : Target) : (s.setTarget i t).cfgadr = s.cfgadr := rfl
@[simp] theorem State.setTarget_fsel (s : State) (i : Fin 32) (t : Target) : (s.setTarget i t).fsel = s.fsel := rfl
@[simp] theorem State.setTarget_cmd (s : State) (i : Fin 32) (t : Target) : (s.setTarget i t).cmd = s.cmd := rfl
@[simp] theorem State.setTarget_cmdres (s : State) (i : Fin 32) (t : Target) : (s.setTarget i t).cmdres = s.cmdres := rfl
@[simp] theorem State.setTarget_ds (s : State) (i : Fin 32) (t : Target) : (s.setTarget i t).ds = s.ds := rfl
@[simp] theorem State.setTarget_ts (s : State) (i : Fin 32) (t : Target) : (s.setTarget i t).ts = s.ts := rfl
@[simp] theorem State.setTarget_ps (s : State) (i : Fin 32) (t : Target) : (s.setTarget i t).ps = s.ps := rfl
@[simp] theorem State.setTarget_ss (s : State) (i : Fin 32) (t : Target) : (s.setTarget i t).ss = s.ss := rfl
@[simp] theorem State.setTarget_ptrPage (s : State) (i : Fin 32) (t : Target) : (s.setTarget i t).ptrPage = s.ptrPage := rfl
@[simp] theorem State.setTarget_ptrOffset (s : State) (i : Fin 32) (t : Target) : (s.setTarget i t).ptrOffset = s.ptrOffset := rfl
@[simp] theorem State.setTarget_capture (s : State) (i : Fin 32) (t : Target) : (s.setTarget i t).capture = s.capture := rfl
@[simp] theorem State.setTarget_lastRead (s : State) (i : Fin 32) (t : Target) : (s.setTarget i t).lastRead = s.lastRead := rfl
@[simp] theorem State.setTarget_targets (s : State) (i : Fin 32) (t : Target) : (s.setTarget i t).targets = vset s.targets i t := rfl
@[simp] theorem State.setTarget_mem (s : State) (i : Fin 32) (t : Target) : (s.setTarget i t).mem = s.mem := rfl
@[simp] theorem State.setTarget_holders (s : State) (i : Fin 32) (t : Target) : (s.setTarget i t).holders = s.holders := rfl
@[simp] theorem State.setTarget_segA (s : State) (i : Fin 32) (t : Target) : (s.setTarget i t).segA = s.segA := rfl
@[simp] theorem State.setTarget_segB (s : State) (i : Fin 32) (t : Target) : (s.setTarget i t).segB = s.segB := rfl
@[simp] theorem State.setTarget_ring (s : State) (i : Fin 32) (t : Target) : (s.setTarget i t).ring = s.ring := rfl
@[simp] theorem State.setTarget_polls (s : State) (i : Fin 32) (t : Target) : (s.setTarget i t).polls = s.polls := rfl
@[simp] theorem State.setTarget_grants (s : State) (i : Fin 32) (t : Target) : (s.setTarget i t).grants = s.grants := rfl
@[simp] theorem State.setTarget_latched (s : State) (i : Fin 32) (t : Target) : (s.setTarget i t).latched = s.latched := rfl
@[simp] theorem State.setTarget_mask (s : State) (i : Fin 32) (t : Target) : (s.setTarget i t).mask = s.mask := rfl
@[simp] theorem State.setTarget_clearMode (s : State) (i : Fin 32) (t : Target) : (s.setTarget i t).clearMode = s.clearMode := rfl
@[simp] theorem State.setTarget_watermark (s : State) (i : Fin 32) (t : Target) : (s.setTarget i t).watermark = s.watermark := rfl
@[simp] theorem State.setTarget_tick (s : State) (i : Fin 32) (t : Target) : (s.setTarget i t).tick = s.tick := rfl
@[simp] theorem State.setTarget_loader (s : State) (i : Fin 32) (t : Target) : (s.setTarget i t).loader = s.loader := rfl
@[simp] theorem State.setTarget_pending (s : State) (i : Fin 32) (t : Target) : (s.setTarget i t).pending = s.pending := rfl
@[simp] theorem State.setTarget_wires (s : State) (i : Fin 32) (t : Target) : (s.setTarget i t).wires = s.wires := rfl
@[simp] theorem State.setTarget_seg (s : State) (i : Fin 32) (t : Target) (x : Seg) : (s.setTarget i t).seg x = s.seg x := by cases x <;> rfl

/-! ### Poll entries -/

@[simp] theorem State.setPoll_rstnLow (s : State) (i : Fin 24) (p : Poll) : (s.setPoll i p).rstnLow = s.rstnLow := rfl
@[simp] theorem State.setPoll_cfgen (s : State) (i : Fin 24) (p : Poll) : (s.setPoll i p).cfgen = s.cfgen := rfl
@[simp] theorem State.setPoll_cfgadr (s : State) (i : Fin 24) (p : Poll) : (s.setPoll i p).cfgadr = s.cfgadr := rfl
@[simp] theorem State.setPoll_fsel (s : State) (i : Fin 24) (p : Poll) : (s.setPoll i p).fsel = s.fsel := rfl
@[simp] theorem State.setPoll_cmd (s : State) (i : Fin 24) (p : Poll) : (s.setPoll i p).cmd = s.cmd := rfl
@[simp] theorem State.setPoll_cmdres (s : State) (i : Fin 24) (p : Poll) : (s.setPoll i p).cmdres = s.cmdres := rfl
@[simp] theorem State.setPoll_ds (s : State) (i : Fin 24) (p : Poll) : (s.setPoll i p).ds = s.ds := rfl
@[simp] theorem State.setPoll_ts (s : State) (i : Fin 24) (p : Poll) : (s.setPoll i p).ts = s.ts := rfl
@[simp] theorem State.setPoll_ps (s : State) (i : Fin 24) (p : Poll) : (s.setPoll i p).ps = s.ps := rfl
@[simp] theorem State.setPoll_ss (s : State) (i : Fin 24) (p : Poll) : (s.setPoll i p).ss = s.ss := rfl
@[simp] theorem State.setPoll_ptrPage (s : State) (i : Fin 24) (p : Poll) : (s.setPoll i p).ptrPage = s.ptrPage := rfl
@[simp] theorem State.setPoll_ptrOffset (s : State) (i : Fin 24) (p : Poll) : (s.setPoll i p).ptrOffset = s.ptrOffset := rfl
@[simp] theorem State.setPoll_capture (s : State) (i : Fin 24) (p : Poll) : (s.setPoll i p).capture = s.capture := rfl
@[simp] theorem State.setPoll_lastRead (s : State) (i : Fin 24) (p : Poll) : (s.setPoll i p).lastRead = s.lastRead := rfl
@[simp] theorem State.setPoll_targets (s : State) (i : Fin 24) (p : Poll) : (s.setPoll i p).targets = s.targets := rfl
@[simp] theorem State.setPoll_mem (s : State) (i : Fin 24) (p : Poll) : (s.setPoll i p).mem = s.mem := rfl
@[simp] theorem State.setPoll_holders (s : State) (i : Fin 24) (p : Poll) : (s.setPoll i p).holders = s.holders := rfl
@[simp] theorem State.setPoll_segA (s : State) (i : Fin 24) (p : Poll) : (s.setPoll i p).segA = s.segA := rfl
@[simp] theorem State.setPoll_segB (s : State) (i : Fin 24) (p : Poll) : (s.setPoll i p).segB = s.segB := rfl
@[simp] theorem State.setPoll_ring (s : State) (i : Fin 24) (p : Poll) : (s.setPoll i p).ring = s.ring := rfl
@[simp] theorem State.setPoll_polls (s : State) (i : Fin 24) (p : Poll) : (s.setPoll i p).polls = vset s.polls i p := rfl
@[simp] theorem State.setPoll_grants (s : State) (i : Fin 24) (p : Poll) : (s.setPoll i p).grants = s.grants := rfl
@[simp] theorem State.setPoll_latched (s : State) (i : Fin 24) (p : Poll) : (s.setPoll i p).latched = s.latched := rfl
@[simp] theorem State.setPoll_mask (s : State) (i : Fin 24) (p : Poll) : (s.setPoll i p).mask = s.mask := rfl
@[simp] theorem State.setPoll_clearMode (s : State) (i : Fin 24) (p : Poll) : (s.setPoll i p).clearMode = s.clearMode := rfl
@[simp] theorem State.setPoll_watermark (s : State) (i : Fin 24) (p : Poll) : (s.setPoll i p).watermark = s.watermark := rfl
@[simp] theorem State.setPoll_tick (s : State) (i : Fin 24) (p : Poll) : (s.setPoll i p).tick = s.tick := rfl
@[simp] theorem State.setPoll_loader (s : State) (i : Fin 24) (p : Poll) : (s.setPoll i p).loader = s.loader := rfl
@[simp] theorem State.setPoll_pending (s : State) (i : Fin 24) (p : Poll) : (s.setPoll i p).pending = s.pending := rfl
@[simp] theorem State.setPoll_wires (s : State) (i : Fin 24) (p : Poll) : (s.setPoll i p).wires = s.wires := rfl
@[simp] theorem State.setPoll_seg (s : State) (i : Fin 24) (p : Poll) (x : Seg) : (s.setPoll i p).seg x = s.seg x := by cases x <;> rfl

/-! ### Latched flags -/

@[simp] theorem State.raise_rstnLow (s : State) (c : Latched) : (s.raise c).rstnLow = s.rstnLow := rfl
@[simp] theorem State.raise_cfgen (s : State) (c : Latched) : (s.raise c).cfgen = s.cfgen := rfl
@[simp] theorem State.raise_cfgadr (s : State) (c : Latched) : (s.raise c).cfgadr = s.cfgadr := rfl
@[simp] theorem State.raise_fsel (s : State) (c : Latched) : (s.raise c).fsel = s.fsel := rfl
@[simp] theorem State.raise_cmd (s : State) (c : Latched) : (s.raise c).cmd = s.cmd := rfl
@[simp] theorem State.raise_cmdres (s : State) (c : Latched) : (s.raise c).cmdres = s.cmdres := rfl
@[simp] theorem State.raise_ds (s : State) (c : Latched) : (s.raise c).ds = s.ds := rfl
@[simp] theorem State.raise_ts (s : State) (c : Latched) : (s.raise c).ts = s.ts := rfl
@[simp] theorem State.raise_ps (s : State) (c : Latched) : (s.raise c).ps = s.ps := rfl
@[simp] theorem State.raise_ss (s : State) (c : Latched) : (s.raise c).ss = s.ss := rfl
@[simp] theorem State.raise_ptrPage (s : State) (c : Latched) : (s.raise c).ptrPage = s.ptrPage := rfl
@[simp] theorem State.raise_ptrOffset (s : State) (c : Latched) : (s.raise c).ptrOffset = s.ptrOffset := rfl
@[simp] theorem State.raise_capture (s : State) (c : Latched) : (s.raise c).capture = s.capture := rfl
@[simp] theorem State.raise_lastRead (s : State) (c : Latched) : (s.raise c).lastRead = s.lastRead := rfl
@[simp] theorem State.raise_targets (s : State) (c : Latched) : (s.raise c).targets = s.targets := rfl
@[simp] theorem State.raise_mem (s : State) (c : Latched) : (s.raise c).mem = s.mem := rfl
@[simp] theorem State.raise_holders (s : State) (c : Latched) : (s.raise c).holders = s.holders := rfl
@[simp] theorem State.raise_segA (s : State) (c : Latched) : (s.raise c).segA = s.segA := rfl
@[simp] theorem State.raise_segB (s : State) (c : Latched) : (s.raise c).segB = s.segB := rfl
@[simp] theorem State.raise_ring (s : State) (c : Latched) : (s.raise c).ring = s.ring := rfl
@[simp] theorem State.raise_polls (s : State) (c : Latched) : (s.raise c).polls = s.polls := rfl
@[simp] theorem State.raise_grants (s : State) (c : Latched) : (s.raise c).grants = s.grants := rfl
@[simp] theorem State.raise_latched (s : State) (c : Latched) : (s.raise c).latched = s.latched ||| causeBit c := rfl
@[simp] theorem State.raise_mask (s : State) (c : Latched) : (s.raise c).mask = s.mask := rfl
@[simp] theorem State.raise_clearMode (s : State) (c : Latched) : (s.raise c).clearMode = s.clearMode := rfl
@[simp] theorem State.raise_watermark (s : State) (c : Latched) : (s.raise c).watermark = s.watermark := rfl
@[simp] theorem State.raise_tick (s : State) (c : Latched) : (s.raise c).tick = s.tick := rfl
@[simp] theorem State.raise_loader (s : State) (c : Latched) : (s.raise c).loader = s.loader := rfl
@[simp] theorem State.raise_pending (s : State) (c : Latched) : (s.raise c).pending = s.pending := rfl
@[simp] theorem State.raise_wires (s : State) (c : Latched) : (s.raise c).wires = s.wires := rfl
@[simp] theorem State.raise_seg (s : State) (c : Latched) (x : Seg) : (s.raise c).seg x = s.seg x := by cases x <;> rfl

/-! ### Results of commands -/

@[simp] theorem State.answer_rstnLow (s : State) (code : Byte) (r : ResultCode) : (s.answer code r).rstnLow = s.rstnLow := rfl
@[simp] theorem State.answer_cfgen (s : State) (code : Byte) (r : ResultCode) : (s.answer code r).cfgen = s.cfgen := rfl
@[simp] theorem State.answer_cfgadr (s : State) (code : Byte) (r : ResultCode) : (s.answer code r).cfgadr = s.cfgadr := rfl
@[simp] theorem State.answer_fsel (s : State) (code : Byte) (r : ResultCode) : (s.answer code r).fsel = s.fsel := rfl
@[simp] theorem State.answer_cmd (s : State) (code : Byte) (r : ResultCode) : (s.answer code r).cmd = s.cmd := rfl
@[simp] theorem State.answer_cmdres (s : State) (code : Byte) (r : ResultCode) : (s.answer code r).cmdres = wordOf code r.code := rfl
@[simp] theorem State.answer_ds (s : State) (code : Byte) (r : ResultCode) : (s.answer code r).ds = s.ds := rfl
@[simp] theorem State.answer_ts (s : State) (code : Byte) (r : ResultCode) : (s.answer code r).ts = s.ts := rfl
@[simp] theorem State.answer_ps (s : State) (code : Byte) (r : ResultCode) : (s.answer code r).ps = s.ps := rfl
@[simp] theorem State.answer_ss (s : State) (code : Byte) (r : ResultCode) : (s.answer code r).ss = s.ss := rfl
@[simp] theorem State.answer_ptrPage (s : State) (code : Byte) (r : ResultCode) : (s.answer code r).ptrPage = s.ptrPage := rfl
@[simp] theorem State.answer_ptrOffset (s : State) (code : Byte) (r : ResultCode) : (s.answer code r).ptrOffset = s.ptrOffset := rfl
@[simp] theorem State.answer_capture (s : State) (code : Byte) (r : ResultCode) : (s.answer code r).capture = s.capture := rfl
@[simp] theorem State.answer_lastRead (s : State) (code : Byte) (r : ResultCode) : (s.answer code r).lastRead = s.lastRead := rfl
@[simp] theorem State.answer_targets (s : State) (code : Byte) (r : ResultCode) : (s.answer code r).targets = s.targets := rfl
@[simp] theorem State.answer_mem (s : State) (code : Byte) (r : ResultCode) : (s.answer code r).mem = s.mem := rfl
@[simp] theorem State.answer_holders (s : State) (code : Byte) (r : ResultCode) : (s.answer code r).holders = s.holders := rfl
@[simp] theorem State.answer_segA (s : State) (code : Byte) (r : ResultCode) : (s.answer code r).segA = s.segA := rfl
@[simp] theorem State.answer_segB (s : State) (code : Byte) (r : ResultCode) : (s.answer code r).segB = s.segB := rfl
@[simp] theorem State.answer_ring (s : State) (code : Byte) (r : ResultCode) : (s.answer code r).ring = s.ring := rfl
@[simp] theorem State.answer_polls (s : State) (code : Byte) (r : ResultCode) : (s.answer code r).polls = s.polls := rfl
@[simp] theorem State.answer_grants (s : State) (code : Byte) (r : ResultCode) : (s.answer code r).grants = s.grants := rfl
@[simp] theorem State.answer_latched (s : State) (code : Byte) (r : ResultCode) : (s.answer code r).latched = s.latched := rfl
@[simp] theorem State.answer_mask (s : State) (code : Byte) (r : ResultCode) : (s.answer code r).mask = s.mask := rfl
@[simp] theorem State.answer_clearMode (s : State) (code : Byte) (r : ResultCode) : (s.answer code r).clearMode = s.clearMode := rfl
@[simp] theorem State.answer_watermark (s : State) (code : Byte) (r : ResultCode) : (s.answer code r).watermark = s.watermark := rfl
@[simp] theorem State.answer_tick (s : State) (code : Byte) (r : ResultCode) : (s.answer code r).tick = s.tick := rfl
@[simp] theorem State.answer_loader (s : State) (code : Byte) (r : ResultCode) : (s.answer code r).loader = s.loader := rfl
@[simp] theorem State.answer_pending (s : State) (code : Byte) (r : ResultCode) : (s.answer code r).pending = s.pending := rfl
@[simp] theorem State.answer_wires (s : State) (code : Byte) (r : ResultCode) : (s.answer code r).wires = s.wires := rfl
@[simp] theorem State.answer_seg (s : State) (code : Byte) (r : ResultCode) (x : Seg) : (s.answer code r).seg x = s.seg x := by cases x <;> rfl

/-! ### Refusals -/

@[simp] theorem State.refuse_rstnLow (s : State) (code : Byte) (r : ResultCode) : (s.refuse code r).rstnLow = s.rstnLow := rfl
@[simp] theorem State.refuse_cfgen (s : State) (code : Byte) (r : ResultCode) : (s.refuse code r).cfgen = s.cfgen := rfl
@[simp] theorem State.refuse_cfgadr (s : State) (code : Byte) (r : ResultCode) : (s.refuse code r).cfgadr = s.cfgadr := rfl
@[simp] theorem State.refuse_fsel (s : State) (code : Byte) (r : ResultCode) : (s.refuse code r).fsel = s.fsel := rfl
@[simp] theorem State.refuse_cmd (s : State) (code : Byte) (r : ResultCode) : (s.refuse code r).cmd = s.cmd := rfl
@[simp] theorem State.refuse_cmdres (s : State) (code : Byte) (r : ResultCode) : (s.refuse code r).cmdres = wordOf code r.code := rfl
@[simp] theorem State.refuse_ds (s : State) (code : Byte) (r : ResultCode) : (s.refuse code r).ds = s.ds := rfl
@[simp] theorem State.refuse_ts (s : State) (code : Byte) (r : ResultCode) : (s.refuse code r).ts = s.ts := rfl
@[simp] theorem State.refuse_ps (s : State) (code : Byte) (r : ResultCode) : (s.refuse code r).ps = s.ps := rfl
@[simp] theorem State.refuse_ss (s : State) (code : Byte) (r : ResultCode) : (s.refuse code r).ss = s.ss := rfl
@[simp] theorem State.refuse_ptrPage (s : State) (code : Byte) (r : ResultCode) : (s.refuse code r).ptrPage = s.ptrPage := rfl
@[simp] theorem State.refuse_ptrOffset (s : State) (code : Byte) (r : ResultCode) : (s.refuse code r).ptrOffset = s.ptrOffset := rfl
@[simp] theorem State.refuse_capture (s : State) (code : Byte) (r : ResultCode) : (s.refuse code r).capture = s.capture := rfl
@[simp] theorem State.refuse_lastRead (s : State) (code : Byte) (r : ResultCode) : (s.refuse code r).lastRead = s.lastRead := rfl
@[simp] theorem State.refuse_targets (s : State) (code : Byte) (r : ResultCode) : (s.refuse code r).targets = s.targets := rfl
@[simp] theorem State.refuse_mem (s : State) (code : Byte) (r : ResultCode) : (s.refuse code r).mem = s.mem := rfl
@[simp] theorem State.refuse_holders (s : State) (code : Byte) (r : ResultCode) : (s.refuse code r).holders = s.holders := rfl
@[simp] theorem State.refuse_segA (s : State) (code : Byte) (r : ResultCode) : (s.refuse code r).segA = s.segA := rfl
@[simp] theorem State.refuse_segB (s : State) (code : Byte) (r : ResultCode) : (s.refuse code r).segB = s.segB := rfl
@[simp] theorem State.refuse_ring (s : State) (code : Byte) (r : ResultCode) : (s.refuse code r).ring = s.ring := rfl
@[simp] theorem State.refuse_polls (s : State) (code : Byte) (r : ResultCode) : (s.refuse code r).polls = s.polls := rfl
@[simp] theorem State.refuse_grants (s : State) (code : Byte) (r : ResultCode) : (s.refuse code r).grants = s.grants := rfl
@[simp] theorem State.refuse_latched (s : State) (code : Byte) (r : ResultCode) : (s.refuse code r).latched = s.latched ||| causeBit .refused := rfl
@[simp] theorem State.refuse_mask (s : State) (code : Byte) (r : ResultCode) : (s.refuse code r).mask = s.mask := rfl
@[simp] theorem State.refuse_clearMode (s : State) (code : Byte) (r : ResultCode) : (s.refuse code r).clearMode = s.clearMode := rfl
@[simp] theorem State.refuse_watermark (s : State) (code : Byte) (r : ResultCode) : (s.refuse code r).watermark = s.watermark := rfl
@[simp] theorem State.refuse_tick (s : State) (code : Byte) (r : ResultCode) : (s.refuse code r).tick = s.tick := rfl
@[simp] theorem State.refuse_loader (s : State) (code : Byte) (r : ResultCode) : (s.refuse code r).loader = s.loader := rfl
@[simp] theorem State.refuse_pending (s : State) (code : Byte) (r : ResultCode) : (s.refuse code r).pending = s.pending := rfl
@[simp] theorem State.refuse_wires (s : State) (code : Byte) (r : ResultCode) : (s.refuse code r).wires = s.wires := rfl
@[simp] theorem State.refuse_seg (s : State) (code : Byte) (r : ResultCode) (x : Seg) : (s.refuse code r).seg x = s.seg x := by cases x <;> rfl

end Sys2Proof.Machine
end

