-- ==== Sys2Proof/Laws/Ops.lean ====
section
/-! SUPPORT. What each shared operation can do, said once: tables, page bytes, the command port, happenings, sweeps and
the end of a transaction. -/

namespace Sys2Proof.Machine

/-! ### Tables of a fixed size -/

@[simp] theorem vset_get_same {α : Type} {n : Nat} (v : Vector α n) (i : Fin n) (a : α) : (vset v i a).get i = a := by
  simp [vset, Vector.get_eq_getElem]

theorem vset_get_other {α : Type} {n : Nat} (v : Vector α n) {i j : Fin n} (a : α) (h : j ≠ i) :
    (vset v i a).get j = v.get j := by
  have : i.val ≠ j.val := fun e => h (Fin.ext e.symm)
  simp [vset, Vector.get_eq_getElem, Vector.getElem_set_ne _ _ this]

theorem vset_get {α : Type} {n : Nat} (v : Vector α n) (i j : Fin n) (a : α) :
    (vset v i a).get j = if j = i then a else v.get j := by
  split
  · next h => rw [h, vset_get_same]
  · next h => exact vset_get_other v a h

@[simp] theorem vset_self {α : Type} {n : Nat} (v : Vector α n) (i : Fin n) : vset v i (v.get i) = v := by
  simp [vset, Vector.get_eq_getElem]

@[simp] theorem vmap_get {α β : Type} {n : Nat} (f : α → β) (v : Vector α n) (i : Fin n) :
    (vmap f v).get i = f (v.get i) := by
  simp [vmap, Vector.get_eq_getElem]

@[simp] theorem vfill_get {α : Type} {n : Nat} (f : Fin n → α) (i : Fin n) : (vfill f).get i = f i := by
  simp [vfill, Vector.get_eq_getElem]

/-- Two tables with the same entries are the same table. -/
theorem vector_ext_get {α : Type} {n : Nat} {v w : Vector α n} (h : ∀ i, v.get i = w.get i) : v = w :=
  Vector.ext fun i hi => h ⟨i, hi⟩

@[simp] theorem target_setTarget_same (s : State) (i : Fin 32) (t : Target) : (s.setTarget i t).target i = t :=
  vset_get_same ..

theorem target_setTarget (s : State) (i j : Fin 32) (t : Target) :
    (s.setTarget i t).target j = if j = i then t else s.target j := vset_get ..

@[simp] theorem poll_setPoll_same (s : State) (i : Fin 24) (p : Poll) : (s.setPoll i p).poll i = p := vset_get_same ..

theorem poll_setPoll (s : State) (i j : Fin 24) (p : Poll) :
    (s.setPoll i p).poll j = if j = i then p else s.poll j := vset_get ..

/-- The bits of a word built from a function are the function's values. -/
theorem bitsOf_getLsbD (f : Nat → Bool) (n k : Nat) : (bitsOf f n).getLsbD k = (decide (k < n) && f k) := by
  induction n with
  | zero => simp [bitsOf]
  | succ n ih =>
    rw [bitsOf, BitVec.getLsbD_cons, ih]
    rcases Nat.lt_trichotomy k n with h | h | h
    · simp [Nat.ne_of_lt h, h, Nat.lt_succ_of_lt h]
    · simp [h]
    · simp [Nat.ne_of_gt h, Nat.not_lt.2 (Nat.le_of_lt h), Nat.not_lt.2 h]

/-! ### Page bytes -/

/-- The form of a list of cells whose first address is above `lo`. -/
theorem Memory.wf_cons {k : Nat} {v : Byte} {rest : Memory} :
    Memory.wf ((k, v) :: rest) = true ↔ (∀ c ∈ rest, k < c.1) ∧ (k < 2048 ∧ v ≠ 0) ∧ Memory.wf rest = true := by
  simp only [Memory.wf, List.pairwise_cons, List.all_cons, Bool.and_eq_true, decide_eq_true_eq]
  tauto

@[simp] theorem Memory.read_nil (a : Nat) : Memory.read [] a = 0 := rfl

@[simp] theorem Memory.wf_nil : Memory.wf [] = true := rfl

/-- Below the first listed address every byte reads 00H. -/
theorem Memory.read_below {m : Memory} {a : Nat} (h : ∀ c ∈ m, a < c.1) : m.read a = 0 := by
  induction m with
  | nil => rfl
  | cons c rest ih =>
    obtain ⟨k, v⟩ := c
    have hk : k ≠ a := Nat.ne_of_gt (h (k, v) (by simp))
    rw [Memory.read, if_neg hk]
    exact ih fun c hc => h c (by simp [hc])

/-- A store lists no address but those listed before and its own. -/
theorem Memory.mem_write {m : Memory} {a : Nat} {b : Byte} {c : Host.Cell} (h : c ∈ m.write a b) :
    c ∈ m ∨ (c = (a, b) ∧ b ≠ 0) := by
  induction m with
  | nil =>
    simp only [Memory.write] at h
    split at h <;> simp_all
  | cons d rest ih =>
    obtain ⟨k, v⟩ := d
    simp only [Memory.write] at h
    split at h
    · split at h
      · exact .inl h
      · next hb => exact (List.mem_cons.1 h).elim (fun e => .inr ⟨e, hb⟩) .inl
    · split at h
      · split at h
        · exact .inl (List.mem_cons_of_mem _ h)
        · next hb => exact (List.mem_cons.1 h).elim (fun e => .inr ⟨e, hb⟩) (fun e => .inl (List.mem_cons_of_mem _ e))
      · rcases List.mem_cons.1 h with h | h
        · exact .inl (h ▸ List.mem_cons_self)
        · exact (ih h).imp_left (List.mem_cons_of_mem _)

/-- A store inside the buffer keeps the canonical form. -/
theorem Memory.write_wf {m : Memory} {a : Nat} {b : Byte} (hm : m.wf = true) (ha : a < 2048) :
    (m.write a b).wf = true := by
  induction m with
  | nil =>
    simp only [Memory.write]
    split
    · rfl
    · next h => exact Memory.wf_cons.2 ⟨by simp, ⟨ha, h⟩, rfl⟩
  | cons c rest ih =>
    obtain ⟨k, v⟩ := c
    obtain ⟨hlt, hkv, hrest⟩ := Memory.wf_cons.1 hm
    simp only [Memory.write]
    split
    · next hak =>
      split
      · exact hm
      · next hb =>
        refine Memory.wf_cons.2 ⟨fun c hc => ?_, ⟨ha, hb⟩, hm⟩
        rcases List.mem_cons.1 hc with h | h
        · rw [h]; exact hak
        · exact Nat.lt_trans hak (hlt c h)
    · next hak =>
      split
      · next he =>
        split
        · exact hrest
        · next hb => exact Memory.wf_cons.2 ⟨fun c hc => he ▸ hlt c hc, ⟨ha, hb⟩, hrest⟩
      · next hne =>
        refine Memory.wf_cons.2 ⟨fun c hc => ?_, hkv, ih hrest⟩
        rcases Memory.mem_write hc with h | ⟨h, -⟩
        · exact hlt c h
        · rw [h]; exact Nat.lt_of_le_of_ne (Nat.not_lt.1 hak) (Ne.symm hne)

/-- A read after a store: the byte stored at its address, and every other byte as before. -/
theorem Memory.read_write {m : Memory} {a : Nat} {b : Byte} (hm : m.wf = true) (c : Nat) :
    (m.write a b).read c = if c = a then b else m.read c := by
  induction m with
  | nil =>
    simp only [Memory.write]
    split
    · next h => simp [h]
    · by_cases h : a = c <;> simp [Memory.read, h, eq_comm]
  | cons d rest ih =>
    obtain ⟨k, v⟩ := d
    obtain ⟨hlt, -, hrest⟩ := Memory.wf_cons.1 hm
    simp only [Memory.write]
    by_cases hak : a < k
    · rw [if_pos hak]
      have hbelow : Memory.read ((k, v) :: rest) a = 0 := Memory.read_below fun c hc => by
        rcases List.mem_cons.1 hc with h | h
        · rw [h]; exact hak
        · exact Nat.lt_trans hak (hlt c h)
      by_cases hb : b = 0
      · rw [if_pos hb]; split
        · next h => rw [h, hbelow, hb]
        · rfl
      · rw [if_neg hb, Memory.read]
        by_cases h : c = a
        · simp [h]
        · rw [if_neg h, if_neg (Ne.symm h)]
    · rw [if_neg hak]
      by_cases he : a = k
      · rw [if_pos he]
        have hbelow : Memory.read rest a = 0 := Memory.read_below fun c hc => he ▸ hlt c hc
        by_cases hb : b = 0
        · rw [if_pos hb]; split
          · next h => rw [h, hbelow, hb]
          · next h => rw [Memory.read, if_neg (fun e : k = c => h (e.symm.trans he.symm))]
        · rw [if_neg hb, Memory.read, Memory.read]
          by_cases h : c = a
          · simp [h]
          · have h1 : ¬ a = c := fun e => h e.symm
            have h2 : ¬ k = c := fun e => h (e.symm.trans he.symm)
            simp [h, h1, h2]
      · rw [if_neg he, Memory.read, Memory.read, ih hrest]
        by_cases h : k = c
        · have : c ≠ a := fun e => he (e ▸ h.symm)
          simp [h, this]
        · simp [h]

/-- Every address of a page lies in the buffer. -/
theorem pageAddr_lt (p : Fin 32) (n : Nat) : pageAddr p n < 2048 := by
  have := p.isLt; have := Nat.mod_lt n (by decide : 64 > 0); unfold pageAddr; omega

/-! ### The command port and happenings -/

/-- While RSTn is low a command changes nothing. -/
theorem command_low {code arg : Byte} {limit : Nat} {checks : State → List (Bool × ResultCode)} {effect : State → State}
    {s : State} (h : s.rstnLow = true) : command code arg limit checks effect s = s := by
  simp [command, h]

/-- All a command can do: nothing while RSTn is low; a refusal, which leaves all but the port and REFUSED; or its effect,
answered DONE, where no load runs, the argument is in range and no check fails. -/
theorem command_cases (code arg : Byte) (limit : Nat) (checks : State → List (Bool × ResultCode))
    (effect : State → State) (s : State) :
    (s.rstnLow = true ∧ command code arg limit checks effect s = s) ∨
    (∃ r, s.rstnLow = false ∧
      command code arg limit checks effect s = State.refuse { s with cmd := wordOf code arg } code r) ∨
    (s.rstnLow = false ∧ s.loader.state ≠ .loading ∧ arg.toNat < limit ∧
      firstFailing (checks s) = none ∧
      command code arg limit checks effect s = (effect { s with cmd := wordOf code arg }).answer code .done) := by
  by_cases h : s.rstnLow = true
  · exact .inl ⟨h, command_low h⟩
  · have h' : s.rstnLow = false := by simpa using h
    right
    unfold command
    rw [if_neg h]
    dsimp only
    split
    · exact .inl ⟨_, h', rfl⟩
    · next hf =>
      refine .inr ⟨h', ?_, ?_, ?_, rfl⟩
      · intro hl
        simp [firstFailing, State.isLoading, hl] at hf
      · by_contra hc
        by_cases hl : s.loader.state = .loading <;>
          simp [firstFailing, State.isLoading, hl, Nat.not_lt.1 hc] at hf
      · by_cases hl : s.loader.state = .loading
        · simp [firstFailing, State.isLoading, hl] at hf
        · by_cases hc : limit ≤ arg.toNat
          · simp [firstFailing, State.isLoading, hl, hc] at hf
          · simpa [firstFailing, State.isLoading, hl, hc] using hf

/-- A command whose argument is in range and whose checks all pass has its effect and is answered DONE. -/
theorem command_done {code arg : Byte} {limit : Nat} {checks : State → List (Bool × ResultCode)} {effect : State → State}
    {s : State} (h : s.rstnLow = false) (hl : s.loader.state ≠ .loading) (ha : arg.toNat < limit)
    (hc : firstFailing (checks s) = none) :
    command code arg limit checks effect s = (effect { s with cmd := wordOf code arg }).answer code .done := by
  have hf : firstFailing ((s.isLoading, ResultCode.loading) :: (decide (limit ≤ arg.toNat), .badEntry) :: checks s) = none := by
    have : ¬ limit ≤ arg.toNat := Nat.not_le.2 ha
    simpa [firstFailing, State.isLoading, hl, this] using hc
  unfold command
  rw [if_neg (by simp [h])]
  dsimp only
  rw [hf]

/-- A command whose argument is in range is refused with the code of its first failing check. -/
theorem command_refused {code arg : Byte} {limit : Nat} {checks : State → List (Bool × ResultCode)}
    {effect : State → State} {s : State} {r : ResultCode} (h : s.rstnLow = false) (hl : s.loader.state ≠ .loading)
    (ha : arg.toNat < limit) (hc : firstFailing (checks s) = some r) :
    command code arg limit checks effect s = State.refuse { s with cmd := wordOf code arg } code r := by
  have hf : firstFailing ((s.isLoading, ResultCode.loading) :: (decide (limit ≤ arg.toNat), .badEntry) :: checks s) =
      some r := by
    have : ¬ limit ≤ arg.toNat := Nat.not_le.2 ha
    simpa [firstFailing, State.isLoading, hl, this] using hc
  unfold command
  rw [if_neg (by simp [h])]
  dsimp only
  rw [hf]

/-- An argument out of range is refused with BAD_ENTRY. -/
theorem command_badEntry {code arg : Byte} {limit : Nat} {checks : State → List (Bool × ResultCode)}
    {effect : State → State} {s : State} (h : s.rstnLow = false) (hl : s.loader.state ≠ .loading)
    (ha : limit ≤ arg.toNat) :
    command code arg limit checks effect s = State.refuse { s with cmd := wordOf code arg } code .badEntry := by
  have hf : firstFailing ((s.isLoading, ResultCode.loading) :: (decide (limit ≤ arg.toNat), .badEntry) :: checks s) =
      some .badEntry := by
    simp [firstFailing, State.isLoading, hl, ha]
  unfold command
  rw [if_neg (by simp [h])]
  dsimp only
  rw [hf]

/-- While a load runs a command is refused with LOADING. -/
theorem command_loading {code arg : Byte} {limit : Nat} {checks : State → List (Bool × ResultCode)}
    {effect : State → State} {s : State} (h : s.rstnLow = false) (hl : s.loader.state = .loading) :
    command code arg limit checks effect s = State.refuse { s with cmd := wordOf code arg } code .loading := by
  have hf : firstFailing ((s.isLoading, ResultCode.loading) :: (decide (limit ≤ arg.toNat), .badEntry) :: checks s) =
      some .loading := by
    simp [firstFailing, State.isLoading, hl]
  unfold command
  rw [if_neg (by simp [h])]
  dsimp only
  rw [hf]

/-- All a happening can do: nothing, or its taken effect with RSTn high. -/
theorem happen_cases (s : State) (taken : Option State) :
    happen s taken = s ∨ ∃ t, s.rstnLow = false ∧ taken = some t ∧ happen s taken = t := by
  unfold happen
  by_cases h : s.rstnLow = true
  · exact .inl (if_pos h)
  · rw [if_neg h]
    cases taken with
    | none => exact .inl rfl
    | some t => exact .inr ⟨t, by simpa using h, rfl, rfl⟩

@[simp] theorem happen_some {s : State} (h : s.rstnLow = false) (t : State) : happen s (some t) = t := by simp [happen, h]

@[simp] theorem happen_none (s : State) : happen s none = s := by unfold happen; split <;> rfl

/-! ### Sweeps -/

/-- All the end test of a sweep can do. -/
theorem endSweep_cases (x : Seg) (s : State) :
    endSweep x s = s ∨
    ((s.seg x).resolver.inSweep = true ∧ (s.seg x).resolver.outstanding = false ∧
      (nextQualifying s x (s.seg x).resolver.cursor).isNone = true ∧
      ∃ l, endSweep x s = { s.setSeg x { s.seg x with
        resolver := (s.seg x).resolver.toHoldoff s.tick (s.seg x).cfg.holdoff } with latched := l }) := by
  unfold endSweep
  dsimp only
  split
  · next h =>
    simp only [Bool.and_eq_true, Bool.not_eq_true'] at h
    refine .inr ⟨h.1.1, h.1.2, h.2, ?_⟩
    split
    · exact ⟨_, by cases x <;> rfl⟩
    · exact ⟨s.latched, by cases x <;> rfl⟩
  · exact .inl rfl

/-- The end test of a sweep changes at most the resolver of its segment and the latched flags. -/
theorem endSweep_shape (x : Seg) (s : State) :
    ∃ r l, endSweep x s = { s.setSeg x { s.seg x with resolver := r } with latched := l } := by
  rcases endSweep_cases x s with h | ⟨-, -, -, l, h⟩
  · exact ⟨(s.seg x).resolver, s.latched, by rw [h]; cases x <;> rfl⟩
  · exact ⟨_, l, h⟩

/-- Beginning a sweep changes at most the resolver of its segment and the latched flags. -/
theorem beginSweep_shape (x : Seg) (s : State) :
    ∃ r l, beginSweep x s = { s.setSeg x { s.seg x with resolver := r } with latched := l } := by
  obtain ⟨r, l, h⟩ := endSweep_shape x (s.updSeg x fun g => { g with resolver := g.resolver.toPending })
  refine ⟨r, l, ?_⟩
  rw [beginSweep, h]
  cases x <;> rfl

/-- Looking at the line changes at most the resolver of its segment and the latched flags. -/
theorem lookAtLine_shape (x : Seg) (s : State) :
    ∃ r l, lookAtLine x s = { s.setSeg x { s.seg x with resolver := r } with latched := l } := by
  unfold lookAtLine
  dsimp only
  split
  · exact beginSweep_shape x s
  · exact ⟨(s.seg x).resolver, s.latched, by cases x <;> rfl⟩

/-- The end tests of both resolvers change at most the two resolvers and the latched flags. -/
theorem endSweeps_shape (s : State) :
    ∃ ra rb l, endSweeps s =
      { s with segA := { s.segA with resolver := ra }, segB := { s.segB with resolver := rb }, latched := l } := by
  obtain ⟨ra, la, ha⟩ := endSweep_shape .a s
  obtain ⟨rb, lb, hb⟩ := endSweep_shape .b (endSweep .a s)
  refine ⟨ra, rb, lb, ?_⟩
  rw [endSweeps, hb, ha]
  rfl

/-! ### The end of a transaction -/

/-- The end of a transaction that is not the loader's changes its segment alone. -/
theorem closeItem_shape {it : Item} (h : it.supplier ≠ .loader) (s : State) (x : Seg) (o : TxOutcome) :
    closeItem s x it o = s.setSeg x { (s.seg x).handOut it o with
      state := ((s.seg x).handOut it o).state.afterTransaction o.isFault } := by
  unfold closeItem
  split
  · contradiction
  · rfl

/-- The end of a loader read changes segment record and the loader's report alone. -/
theorem closeItem_loader {it : Item} (h : it.supplier = .loader) (s : State) (x : Seg) (o : TxOutcome) :
    closeItem s x it o = { s.setSeg x { s.seg x with item := none } with
      loader := { s.loader with report := some { outcome := o, second := it.second, bytes := it.bytes } } } := by
  unfold closeItem Segment.handOut
  simp only [h]
  cases x <;> rfl

/-- Handing out the reports leaves queue, configuration, state, streak, recovery, resolver and pin, and no record. -/
theorem handOut_frame (g : Segment) (it : Item) (o : TxOutcome) :
    (g.handOut it o).queue = g.queue ∧ (g.handOut it o).cfg = g.cfg ∧ (g.handOut it o).state = g.state ∧
    (g.handOut it o).streak = g.streak ∧ (g.handOut it o).recovery = g.recovery ∧
    (g.handOut it o).resolver = g.resolver ∧ (g.handOut it o).alertLow = g.alertLow ∧
    (g.handOut it o).item = none := by
  unfold Segment.handOut Segment.report
  cases it.supplier <;> cases it.target <;> cases it.detached <;> simp

end Sys2Proof.Machine
end

