-- ==== Sys2Proof/Laws/Wires.lean ====
section
/-! SUPPORT. What the wires can do, said once: to an item, to a recovery, to a segment, and before a row that comes early. -/

namespace Sys2Proof.Machine

/-! ### A phase begins -/

@[simp] theorem Item.settle_phase (it : Item) (now : Tick) : (it.settle now).phase = it.phase := rfl
@[simp] theorem Item.settle_point (it : Item) (now : Tick) : (it.settle now).point = it.phase.start := rfl
@[simp] theorem Item.settle_hold (it : Item) (now : Tick) : (it.settle now).hold = none := rfl
@[simp] theorem Item.settle_since (it : Item) (now : Tick) : (it.settle now).since = now := rfl
@[simp] theorem Item.settle_supplier (it : Item) (now : Tick) : (it.settle now).supplier = it.supplier := rfl
@[simp] theorem Item.settle_form (it : Item) (now : Tick) : (it.settle now).form = it.form := rfl
@[simp] theorem Item.settle_writeCount (it : Item) (now : Tick) : (it.settle now).writeCount = it.writeCount := rfl
@[simp] theorem Item.settle_readCount (it : Item) (now : Tick) : (it.settle now).readCount = it.readCount := rfl
@[simp] theorem Item.settle_attempts (it : Item) (now : Tick) : (it.settle now).attempts = it.attempts := rfl
@[simp] theorem Item.settle_retryLimit (it : Item) (now : Tick) : (it.settle now).retryLimit = it.retryLimit := rfl

/-- An item whose phase has just begun stands at a point of it, in no hold. -/
theorem Item.settle_stands (it : Item) (now : Tick) : (it.settle now).Stands := by
  unfold Item.Stands
  refine ⟨?_, by simp⟩
  simp only [Item.settle_phase, Item.settle_point]
  cases it.phase <;> simp [Phase.start]

/-! ### Items -/

/-- All the wires can do to an item: the bus found free, a condition made (or, with a cut marked, the closing stop begun
after it), the eighth bit, a hold begun, a hold ended. -/
theorem Item.wire_cases {it it' : Item} {now : Tick} {w : Wire} (h : it.wire now w = some it') :
    (w = .busFree ∧ it.phase = .opening ∧ it.point = .free ∧ it' = { it with point := .condition }) ∨
    (w = .started ∧ (it.phase = .opening ∨ it.phase = .restart) ∧ it.point = .condition ∧ it.hold = none ∧
      ((it.cut = false ∧ it' = { it with point := .bits }) ∨
       (it.cut = true ∧ it' = { it with phase := .stop (.ended .aborted) }.settle now))) ∨
    (w = .eighth ∧ it.point = .bits ∧ it.hold = none ∧ it.storesByte = false ∧ it' = { it with point := .ninth }) ∨
    (w = .held ∧ it.clocked = true ∧ it.hold = none ∧ it' = { it with hold := some now }) ∨
    (w = .clockHigh ∧ it' = { it with hold := none }) := by
  cases w with
  | busFree =>
    simp only [Item.wire, Bool.and_eq_true, decide_eq_true_eq, Option.ite_none_right_eq_some, Option.some.injEq] at h
    exact .inl ⟨rfl, h.1.1, h.1.2, h.2.symm⟩
  | started =>
    simp only [Item.wire, Bool.and_eq_true, Bool.or_eq_true, decide_eq_true_eq, Option.ite_none_right_eq_some,
      Option.some.injEq] at h
    obtain ⟨⟨⟨hp, hc⟩, hh⟩, rfl⟩ := h
    refine .inr (.inl ⟨rfl, hp, hc, hh, ?_⟩)
    cases hcut : it.cut <;> simp
  | eighth =>
    simp only [Item.wire, Bool.and_eq_true, Bool.not_eq_true', decide_eq_true_eq, Option.ite_none_right_eq_some,
      Option.some.injEq] at h
    exact .inr (.inr (.inl ⟨rfl, h.1.1.1, h.1.1.2, h.1.2, h.2.symm⟩))
  | held =>
    simp only [Item.wire, Bool.and_eq_true, decide_eq_true_eq, Option.ite_none_right_eq_some, Option.some.injEq] at h
    exact .inr (.inr (.inr (.inl ⟨rfl, h.1.1, h.1.2, h.2.symm⟩)))
  | clockHigh =>
    simp only [Item.wire, Option.some.injEq] at h
    exact .inr (.inr (.inr (.inr ⟨rfl, h.symm⟩)))
  | sampled high => simp [Item.wire] at h

/-- What the wires must have done next is one of the things they can do. -/
theorem Item.onward_wire {it it' : Item} {now : Tick} (h : it.onward now = some it') : ∃ w, it.wire now w = some it' := by
  unfold Item.onward at h
  split at h
  · exact ⟨_, h⟩
  · split at h
    · exact ⟨_, h⟩
    · exact ⟨_, h⟩
    · exact ⟨_, h⟩
    · cases h

/-- What holds of an item and is kept by the wires holds of it when a row is taken, and the row is ready then. -/
theorem Item.bring_keeps {P : Item → Prop} {ready : Item → Bool} {now : Tick}
    (keep : ∀ {i i' : Item} {w : Wire}, i.wire now w = some i' → P i → P i') :
    ∀ {n : Nat} {it it' : Item}, Item.bring ready now n it = some it' → P it → P it' ∧ ready it' = true
  | 0, it, it', h, hp => by
    simp only [Item.bring, Option.ite_none_right_eq_some, Option.some.injEq] at h
    obtain ⟨hr, rfl⟩ := h
    exact ⟨hp, hr⟩
  | n + 1, it, it', h, hp => by
    rw [Item.bring] at h
    split at h
    · next hr =>
      cases h
      exact ⟨hp, hr⟩
    · obtain ⟨i, hi, h⟩ := Option.bind_eq_some_iff.1 h
      obtain ⟨w, hw⟩ := Item.onward_wire hi
      exact Item.bring_keeps keep h (keep hw hp)

theorem Item.bringTo_keeps {P : Item → Prop} {ready : Item → Bool} {now : Tick} {it it' : Item}
    (keep : ∀ {i i' : Item} {w : Wire}, i.wire now w = some i' → P i → P i') (h : it.bringTo ready now = some it')
    (hp : P it) : P it' ∧ ready it' = true := Item.bring_keeps keep h hp

/-- A row that finds the item ready takes it as it stands. -/
theorem Item.bringTo_ready {ready : Item → Bool} {now : Tick} {it : Item} (h : ready it = true) :
    it.bringTo ready now = some it := by simp [Item.bringTo, Item.bring, h]

/-! ### Recoveries -/

/-- All a sample can do: go on with at most one pulse more, succeed on a high sample of a stop, or fail on a low one at pulse
count 9. -/
theorem Recovery.sample_cases (r : Recovery) (high : Bool) :
    (∃ n st, r.sample high = .on { r with pulses := n, stage := st } ∧ (n = r.pulses ∨ n = r.pulses + 1)) ∨
    (r.sample high = .succeeded ∧ r.stage = .stop ∧ high = true) ∨ (r.sample high = .failed ∧ high = false) := by
  unfold Recovery.sample
  cases r.stage
  · exact .inl ⟨_, _, rfl, .inl rfl⟩
  · cases high
    · dsimp only
      by_cases h : r.pulses + 1 < 9
      · exact .inl ⟨r.pulses + 1, .pulse, by simp [h], .inr rfl⟩
      · exact .inr (.inr ⟨by simp [h], rfl⟩)
    · exact .inl ⟨_, _, rfl, .inr rfl⟩
  · cases high
    · dsimp only
      by_cases h : r.pulses < 9
      · exact .inl ⟨r.pulses, .pulse, by simp [h], .inl rfl⟩
      · exact .inr (.inr ⟨by simp [h], rfl⟩)
    · exact .inr (.inl ⟨rfl, rfl, rfl⟩)

/-! ### Segments -/

/-- The wires of a segment change its item or its recovery and nothing else of it. -/
theorem Segment.wire_cases {g h : Segment} {now : Tick} {w : Wire} (e : g.wire now w = some h) :
    (∃ it it', g.item = some it ∧ it.wire now w = some it' ∧ h = { g with item := some it' }) ∨
    (∃ r r', g.item = none ∧ g.recovery = some r ∧ r.wire now g.cfg.stretch w = some r' ∧
      h = { g with recovery := some r' }) := by
  unfold Segment.wire at e
  split at e
  · next it hi =>
    obtain ⟨it', hw, rfl⟩ := Option.map_eq_some_iff.1 e
    exact .inl ⟨it, it', hi, hw, rfl⟩
  · next hi =>
    split at e
    · next r hr =>
      obtain ⟨r', hw, rfl⟩ := Option.map_eq_some_iff.1 e
      exact .inr ⟨r, r', hi, hr, hw, rfl⟩
    · cases e

/-- A happening on the wires changes nothing, or the item or the recovery of its segment. -/
theorem takeWire_cases (x : Seg) (w : Wire) (s : State) :
    takeWire x w s = s ∨ ∃ h, (s.seg x).wire s.tick w = some h ∧ takeWire x w s = s.setSeg x h := by
  unfold takeWire
  cases h : (s.seg x).wire s.tick w with
  | none => exact .inl rfl
  | some g => exact .inr ⟨g, rfl, rfl⟩

@[simp] theorem takeWires_nil (s : State) : takeWires [] s = s := rfl

@[simp] theorem takeWires_cons (x : Seg) (w : Wire) (seen : List (Seg × Wire)) (s : State) :
    takeWires ((x, w) :: seen) s = takeWires seen (takeWire x w s) := rfl

/-- What every happening on the wires keeps, a list of them keeps. -/
theorem takeWires_keeps {P : State → Prop} (keep : ∀ x w s, P s → P (takeWire x w s)) (seen : List (Seg × Wire)) :
    ∀ s, P s → P (takeWires seen s) := by
  induction seen with
  | nil => exact fun _ h => h
  | cons c rest ih => exact fun s h => ih _ (keep c.1 c.2 s h)

/-- An advance takes the front millisecond of the wires, or nothing where none is said. -/
theorem takeMillisecond_cases (s : State) :
    (s.wires = [] ∧ takeMillisecond s = s) ∨
    ∃ seen rest, s.wires = seen :: rest ∧ takeMillisecond s = takeWires seen { s with wires := rest } := by
  unfold takeMillisecond
  cases h : s.wires with
  | nil => exact .inl ⟨rfl, rfl⟩
  | cons seen rest => exact .inr ⟨seen, rest, rfl, rfl⟩

@[simp] theorem takeBefore_nil (s : State) : takeBefore [] s = s := by unfold takeBefore; split <;> rfl

end Sys2Proof.Machine
end

