-- ==== Sys2Proof/Tests/Slice0.lean ====
section
/-! SUPPORT. The model's own tests: ill-formed terms refused, words of commands, one-step checks against the spec's
examples, and for each obligation a concrete state and operands that meet its hypotheses. -/

namespace Sys2Proof.Tests

open Sys2Proof Sys2Proof.Machine

/-! ### Small states -/

/-- The state after a command, or the state before it where the command stops. -/
def after (c : Instr) (s : State) : State :=
  match exec c s with
  | .next t => t
  | _ => s

/-- A target entry on segment A: address 48H, width 1, one retry, threshold 2, alert mask 0FH. -/
def target3 : Target :=
  { Target.empty with
    cfg := { segment := .a, address := 0x48, width := 1, speed := .standard, retryLimit := 1, threshold := 2
             alertCapable := true, alertIndex := 0x10, alertMask := 0x0F }
    state := .unknown }

/-- Segment A READY with the power-on configuration, and target entry 3 on it. -/
def base : State :=
  { State.reset with
    segA := { Segment.powerOn false with state := .ready }, targets := vset State.reset.targets 3 target3 }

/-- `base` with segment A changed. -/
def withA (f : Segment → Segment) : State := { base with segA := f base.segA }

/-- `base` with segment A in a state. -/
def inState (st : SegState) : State := withA fun g => { g with state := st }

/-- `base` with target entry 3 in a state. -/
def targetIn (st : TgtState) : State :=
  { base with targets := vset base.targets 3 { target3 with state := st } }

/-- `base` with the five words of the descriptor staging registers. -/
def staged (a b c d e : Word) (s : State) : State := { s with ds := #v[a, b, c, d, e] }

/-- A held READ of two bytes for entry 3 in a slot, with a page. -/
def held (slot : Nat) (page : Fin 32) (st : DescState) : Descriptor :=
  { tag := 0x77, target := 3, kind := .read, indexPresent := true, index := 0x0012, writeLen := 0, readLen := 2
    page := some page, deadline := 10, notify := true, state := st, acceptTick := 0, cut := false, slot := slot }

/-- The work item of that READ at a point of a phase. -/
def itemAt (ph : Phase) (pt : Point) : Item :=
  { recordOf target3 3 .queue (.descriptor .read true 0x0012 0 2 (some 4)) 0 with phase := ph, point := pt }

/-- The work item of that READ as a phase begins. -/
def itemIn (ph : Phase) : Item := itemAt ph ph.start

/-- Segment A BUSY with an item, and the item's descriptor ACTIVE at the head of its queue. -/
def running (it : Item) : State :=
  withA fun g => { g with state := .busy, item := some it, queue := [held 0 4 .active] }

/-- A poll entry of entry 3: two bytes, SIGNED, period 1000, ABOVE 80, notify. -/
def poll2 : Poll :=
  { Poll.empty with
    cfg := { Poll.empty.cfg with
      target := 3, register := 0x05, width := 2, signed := true, period := 1000, mode := .above, high := 80
      hysteresis := 5, staleLimit := 2, notify := true }
    enabled := true, nextDue := 5 }

/-- `base` with poll entry 2 and a tick. -/
def polled (p : Poll) (now : Tick) : State := { base with polls := vset base.polls 2 p, tick := now }

/-- A state of much work: an ACTIVE head with its item, a QUEUED descriptor behind it, both pages lent, an enabled
poll entry, and two commands waiting. -/
def rich : State :=
  { running (itemIn .restart) with
    segA := { (running (itemIn .restart)).segA with queue := [held 0 4 .active, held 1 5 .queued] }
    targets := vset base.targets 3 { target3 with refs := 3 }
    polls := vset base.polls 2 poll2
    holders := vset (vset base.holders 4 (some { seg := .a, slot := 0 })) 5 (some { seg := .a, slot := 1 })
    mem := [(256, 0x5A)]
    pending := [.tickAdvance, .pop 0] }

/-- The part during a load, before the first read is reported. -/
def loading : State := { State.reset with loader := { Loader.skipped with state := .loading } }

/-- A completion entry. -/
def entry : Completion :=
  { tag := 1, target := 3, kind := .read, outcome := .ok, attempts := 1, writeCount := 0, readCount := 2
    page := some 4, notify := true, stamp := 7 }

/-! ### Terms that are no command of their row -/

theorem test_badCommand_of_a_known_code_is_refused :
    (Instr.badCommand 0x0100).wf = false ∧ exec (.badCommand 0x0100) base = .refused .illFormed := ⟨by decide, rfl⟩

theorem test_registerWrite_to_PAGEPTR_is_refused :
    (Instr.registerWrite 0x34 0).wf = false ∧ exec (.registerWrite 0x34 0) base = .refused .illFormed := ⟨by decide, rfl⟩

/-! ### Words of commands (Table 12-2) -/

/-- CMD words written out from Table 12-2: POP is 02H, ABORT 03H, TGT_CLEAR 12H, POLL_DISABLE 23H, RELOAD 31H; 0BH and
32H name no command. -/
theorem test_command_words :
    commandOf 0b0000001000000000 = .pop 0 ∧ commandOf 0b0000001100000001 = .abort 1 [] ∧
    commandOf 0b0001001000011111 = .tgtClear 31 ∧ commandOf 0b0010001100010111 = .pollDisable 23 ∧
    commandOf 0b0011000100000000 = .reload 0 ∧ commandOf 0x0B00 = .badCommand 0x0B00 ∧
    commandOf 0x3201 = .badCommand 0x3201 := by decide

/-- A CMD word put in front is the next command; a word of another length spells none (log entry 17). -/
theorem test_word_in_front :
    (base.withFetchWord 16 0x0200).pending = [.pop 0] ∧ decodeTableWord 8 0x02 = none ∧
    decodeTableWord 0 0 = none := by decide

/-- A host write at a window address is the row of its register (Table 12-1). -/
theorem test_host_writes :
    hostWrite 0x02 0x0301 = .abort 1 [] ∧ hostWrite 0x0D 0x0001 = .alarmFlagsWrite true 0x0001 ∧
    hostWrite 0x34 0x0101 = .pagePtrWrite 0x0101 ∧ hostWrite 0x3F 0 = .registerWrite 0x3F 0 ∧
    hostRead 0x35 = some .pageDataRead ∧ hostRead 0x34 = none := by decide

/-! ### One-step checks -/

theorem test_step_runs_the_front : step rich = exec .tickAdvance { rich with pending := [.pop 0] } := rfl

theorem test_pop_of_an_empty_ring : (after (.pop 0x5A) base).cmdres = 0x0211 := by decide

theorem test_badCommand_result :
    (after (.badCommand 0x9900) base).cmdres = 0x9902 ∧ (after (.badCommand 0x9900) base).latched = 0x0001 := by decide

/-- The pointer goes from offset 63 to offset 0 of the same page (R68). -/
theorem test_pointer_wraps :
    (after .pageDataRead { base with ptrPage := 3, ptrOffset := 63 }).ptrOffset = 0 ∧
    (after .pageDataRead { base with ptrPage := 3, ptrOffset := 63 }).ptrPage = 3 := by decide

/-- A write stores the low byte at the pointer, page × 64 + offset (R69). -/
theorem test_page_write :
    (after (.pageDataWrite 0x12AB) { base with ptrPage := 31, ptrOffset := 63 }).mem = [(2047, 0xAB)] := by decide

/-- The tick goes from FFFFFFFFH to 0 (R120). -/
theorem test_tick_wraps : (after .tickAdvance { base with tick := 0xFFFFFFFF }).tick = 0 := by decide

theorem test_tick_read :
    (after .tickLoRead { base with tick := 0x12345678 }).lastRead = 0x5678 ∧
    (after .tickLoRead { base with tick := 0x12345678 }).capture = 0x1234 := by decide

/-- A watermark field of 33 leaves EVCTRL as it was; 32 is stored (R176). -/
theorem test_watermark :
    (after (.evCtrlWrite 0x8021) base).watermark = 1 ∧ (after (.evCtrlWrite 0x8020) base).watermark = 32 ∧
    (after (.evCtrlWrite 0x8020) base).clearMode = .readClears := by decide

/-- The staging register of a length keeps bits 14..8 and 6..0 alone (Table 12-4). -/
theorem test_staging_keeps_field_bits : (after (.registerWrite 0x14 0xFFFF) base).ds.get 3 = 0x7F7F := by decide

/-- A second SUBMIT to a target counts a second reference and takes the next slot (R29). -/
theorem test_submit :
    let s := after (.submit 0) (staged 0x7703 0x4804 0 0x0002 0 base)
    s.cmdres = 0x0100 ∧ (s.target 3).refs = 1 ∧ s.segA.queue.length = 1 ∧
      s.holders.get 4 = some { seg := .a, slot := 0 } := by decide

/-- A NACK_ADDRESS that reaches the threshold leaves the entry QUARANTINED, not MISSING (R7). -/
theorem test_quarantine_before_missing :
    let s := { withA fun g => { g with tableReports := [{ target := 3, ofDescriptor := true, dropped := false, body := .outcome .nackAddress }] } with
      targets := vset base.targets 3 { target3 with failures := 1 } }
    ((after (.outcomeReport .a) s).target 3).state = .quarantined ∧ (after (.outcomeReport .a) s).latched = 0x0010 := by
  decide

/-- A first address not acknowledged is retried while a retry is left (R90); a BYTE_END implies what the wires must have done
before it (log entry 13). -/
theorem test_retry :
    (after (.byteEnd .a false 0) (running (itemAt .opening .ninth))).segA.item.map (·.phase) = some (.stop .retry) ∧
    (after (.byteEnd .a false 0) (running (itemIn .opening))).segA.item.map (·.phase) = some (.stop .retry) := by decide

/-- A bus-free check that has ended cannot time out any more (R77). -/
theorem test_bus_free_check_ends :
    (after (.busFreeTimeout .a) { running (itemIn .opening) with tick := 36 }).segA.state = .recovery ∧
    (after (.busFreeTimeout .a) { running (itemAt .opening .bits) with tick := 36 }).segA.state = .busy := by decide

/-- A hold is timed from its own release of SCLx, not from the beginning of its byte (R81). -/
theorem test_hold_is_timed_afresh :
    let s := fun (since : Tick) => { running { itemAt .restart .bits with hold := some since } with tick := 40 }
    (after (.stretchTimeout .a) (s 15)).segA.state = .busy ∧ (after (.stretchTimeout .a) (s 14)).segA.state = .recovery := by
  decide

/-- A cut marked in a repeated start lets it complete and then makes the closing stop (Table 5-7). -/
theorem test_cut_in_repeated_start :
    let s := takeWire .a .started (running { itemIn .restart with cut := true })
    s.segA.item.map (·.phase) = some (.stop (.ended .aborted)) := by decide

/-- What the wires did in a millisecond is taken in its order before the count goes up (log entry 13). -/
theorem test_tick_takes_the_wires :
    let t := after .tickAdvance { running (itemIn .opening) with wires := [[(.a, .busFree), (.a, .started), (.a, .held)], []] }
    t.segA.item = some { itemAt .opening .bits with hold := some 0 } ∧ t.tick = 1 ∧ t.wires = [[]] := by decide

/-- Address 50H is sent as A0H in write direction and as A1H in read direction, high bit first (R79). -/
theorem test_address_byte :
    addressByte 0x50 false = 0xA0 ∧ addressByte 0x50 true = 0xA1 ∧
    wireBits 0xA1 = [true, false, true, false, false, false, false, true] ∧ byteOfBits (wireBits 0xA1) = 0xA1 := by decide

/-- The last byte of a read is answered with NACK and the one before it with ACK (R80). -/
theorem test_last_byte_is_not_acknowledged :
    ({ itemAt (.dataIn 2) .ninth with readCount := 1 } : Item).answer 0 = some true ∧
    ({ itemAt (.dataIn 2) .ninth with readCount := 2 } : Item).answer 0 = some false := by decide

/-- An index of width 1 is one byte, and a READ with an index goes on with a repeated start (Table 5-4). -/
theorem test_read_plan :
    (itemIn .opening).plan.index = [0x12] ∧ (itemIn .opening).plan.afterIndex = .restart := by decide

/-- Nine low samples after the opening one fail the recovery; eight and a high one do not (R126, R127). -/
theorem test_recovery_samples :
    (Recovery.mk 0 .opening none).run (List.replicate 10 false) = some .failed ∧
    (Recovery.mk 0 .opening none).run (List.replicate 9 false ++ [true, true]) = some .succeeded := by decide

/-- Four pulses of Table 7-3: the samples after the opening one count, and the high one leads to the stop. -/
theorem test_four_pulses :
    let s := withA fun g => { g with state := .recovery, recovery := some (.fresh 0 25) }
    let t := takeWires ([Wire.clockHigh, .sampled false, .sampled false, .sampled false, .sampled false, .sampled true].map
      fun w => (.a, w)) s
    t.segA.recovery = some { pulses := 4, stage := .stop, hold := none } ∧
      (after (.recoverySucceeded .a [true]) t).segA.state = .ready := by decide

/-- A descriptor that has retired: its outcome still reaches the entry that a TGT_CLEAR and a TGT_WRITE have rewritten, while
a poll read's is dropped (R33, R20; log entry 5). -/
theorem test_late_report_reaches :
    let sent := fun (own : Bool) => withA fun g => { g with
      tableReports := [{ target := 3, ofDescriptor := own, dropped := false, body := .outcome .nackAddress }] }
    (((after (.outcomeReport .a) (after (.tgtWrite 3) { sent true with ts := #v[0x4844, 0x2000, 0, 0, 0, 0] })).target 3).state
      = .missing) ∧
    (((after (.outcomeReport .a) (after (.tgtWrite 3) { sent false with ts := #v[0x4844, 0x2000, 0, 0, 0, 0] })).target 3).state
      = .unknown) := by decide

/-- A HIGH entry of limit 80 and hysteresis 5 returns at 75 and not at 76 (Table 8-3). -/
theorem test_judge_above :
    judge poll2.cfg .high 76 = .high ∧ judge poll2.cfg .high 75 = .normal ∧ judge poll2.cfg .normal 80 = .normal := by
  decide

/-- The two bytes of a SIGNED value, high byte first (R152). -/
theorem test_value : valueOf true (assemble poll2.cfg [0xFF, 0x31]) = -207 := by decide


/-! ### The example list of 11.7 -/

/-- The five records of the example; the body bytes it leaves unsaid are this test's own. -/
def exampleList : List Byte :=
  [0x01, 0x08, 0x00, 0x23, 0x19, 0x02, 0x04, 0x01, 0x32, 0x01,
   0x02, 0x08, 0x08, 0x00, 0x48, 0x40, 0x03, 0x00, 0x00, 0x9E,
   0x03, 0x10, 0x04, 0x01, 0xA1, 0x08, 0x00, 0x00, 0x03, 0xE8, 0x00, 0xC8, 0x00, 0x46, 0xFF, 0x31, 0x05, 0x20,
   0x04, 0x04, 0x00, 0x9A, 0x80, 0x08, 0xFF, 0x00, 0x07, 0xF2]

/-- How a walk over some bytes ends: the reason of a failure (none for a good list or one that goes on), the record
offset and the good records. -/
def walked (bytes : List Byte) : LoadReason × Nat × Nat :=
  match walk (bytes.length + 1) { Loader.skipped with state := .loading, bytes := bytes } with
  | .more l => (.none, l.offset, l.good)
  | .failed r l => (r, l.offset, l.good)
  | .good l => (.none, l.offset, l.good)

/-- The record offsets and counts of Table 11-2 after each piece and at END (R184, R186). -/
theorem test_example_list_walks :
    walked (exampleList.take 16) = (.none, 10, 1) ∧ walked (exampleList.take 32) = (.none, 20, 2) ∧
    walked exampleList = (.none, 44, 4) := by decide

/-- An address of 05H, a poll of target 9 and a stored checksum of 07F3H fail as 11.7 says. -/
theorem test_example_list_fails :
    walked ((exampleList.set 14 0x05).take 32) = (.badField, 10, 1) ∧
    walked (exampleList.set 25 0x09) = (.undefinedTarget, 20, 2) ∧
    walked (exampleList.set 47 0xF3) = (.checksum, 44, 4) := by decide

/-! ### Witnesses: states and operands that meet the hypotheses of each obligation -/

theorem ready_base : HostReady base := ⟨rfl, by decide⟩

theorem ready_rich : HostReady rich := ⟨rfl, by decide⟩

theorem witness_StepRunsFrontCommand :
    rich.pending = .tickAdvance :: [.pop 0] ∧ State.reset.pending = [] := ⟨rfl, rfl⟩

theorem witness_WellFormedCommandsComplete :
    (Instr.registerWrite 0x32 0).wf = true ∧ (Instr.badCommand 0x0000).wf = true ∧
    (Instr.registerWrite 0x35 0).wf = false ∧ (Instr.badCommand 0x31FF).wf = false := by decide

theorem witness_CommandWordsRoundTrip :
    (Instr.abort 1 []).wf = true ∧ (Instr.abort 1 []).cmdWord = some 0x0301 ∧ base.pending = [] ∧
    (Instr.badCommand 0xFFFF).wf = true ∧ (Instr.badCommand 0xFFFF).cmdWord = some 0xFFFF := by decide

/-- The lowest and highest arguments of each range clause, and codes beside the named ones. -/
theorem witness_LoadingAndBadWordsAreRefused :
    (loading.rstnLow = false ∧ loading.loader.state = .loading) ∧ HostReady base ∧
    (namesCommand (codeOf 0x0000) = false ∧ namesCommand (codeOf 0x0B00) = false ∧
      namesCommand (codeOf 0x32FF) = false) ∧
    (2 ≤ (2 : Byte).toNat ∧ 2 ≤ (255 : Byte).toNat) ∧ (32 ≤ (32 : Byte).toNat ∧ 24 ≤ (24 : Byte).toNat) :=
  ⟨by decide, ready_base, by decide, by decide, by decide⟩

theorem witness_RefusedCommandChangesOnlyThePort :
    base.rstnLow = false ∧ exec (commandOf 0x0200) base = .next (after (.pop 0) base) ∧
    argOf (after (.pop 0) base).cmdres ≠ 0 := ⟨rfl, rfl, by decide⟩

theorem witness_RegistersChangeOnlyByTheirCommands :
    exec (.pop 0) base = .next (after (.pop 0) base) ∧ (∀ e a f, Instr.pop 0 ≠ .powerOnReset e a f) ∧
    Instr.pop 0 ≠ .tickAdvance ∧ Instr.pop 0 ≠ .tickLoRead ∧ (∀ w, Instr.pop 0 ≠ .pagePtrWrite w) ∧
    (∀ w, Instr.pop 0 ≠ .evMaskWrite w) ∧ (∀ w, Instr.pop 0 ≠ .evCtrlWrite w) ∧ (∀ a w, Instr.pop 0 ≠ .registerWrite a w) ∧
    (∀ a, Instr.pop 0 ≠ .reload a) ∧ Instr.pop 0 ≠ .loaderReadReport := by
  refine ⟨rfl, ?_, ?_, ?_, ?_, ?_, ?_, ?_, ?_, ?_⟩ <;> intros <;> simp

/-- A head settled at a ring of 31 entries, the last that has room. -/
def retiring : State :=
  { withA fun g => { g with queue := [held 0 4 .cancelled] } with ring := List.replicate 31 entry }

theorem witness_RingChangesOnlyByRetirementPopAndReset :
    exec (.retirement .a) retiring = .next (after (.retirement .a) retiring) ∧ retiring.ring.length < 32 ∧
    (after (.retirement .a) retiring).ring.length = 32 := ⟨rfl, by decide, by decide⟩

/-- Segment A receives the last byte of a page. -/
def receiving : State := running { itemIn (.dataIn 64) with readCount := 63 }

theorem witness_PageBytesChangeOnlyByTheirWriters :
    (base.mem.wf = true ∧ (after (.pageDataWrite 0x00AB) base).mem.read 0 ≠ base.mem.read 0) ∧
    (receiving.mem.wf = true ∧ (after (.pageStore .a 0x01) receiving).mem.read 319 ≠ receiving.mem.read 319) ∧
    (rich.mem.wf = true ∧ (after (.powerOnReset false 0 0) rich).mem.read 256 ≠ rich.mem.read 256) := by decide

theorem seg_cases {p : Seg → Prop} (ha : p .a) (hb : p .b) (x : Seg) : p x := by
  cases x
  · exact ha
  · exact hb

theorem rich_references : LoadQuiet rich ∧ RefLaw rich ∧ RouteLaw rich := by
  refine ⟨fun h => absurd h (by decide), by unfold RefLaw; decide, seg_cases (by decide) (by decide), by decide,
    fun h => absurd h (by decide), ?_⟩
  intro i c e h
  have : ∀ j : Fin 24, rich.loader.shadow.polls.get j = none := by decide
  rw [this i] at h
  cases h

theorem witness_ReferencedTargetKeepsItsPlace :
    (LoadQuiet rich ∧ RefLaw rich ∧ RouteLaw rich) ∧ 0 < (rich.target 3).refs ∧
    exec .tickAdvance rich = .next (after .tickAdvance rich) ∧ 0 < ((after .tickAdvance rich).target 3).refs :=
  ⟨rich_references, by decide, rfl, by decide⟩

/-- The rich state steps: what every StepKeeps statement asks besides its laws. -/
theorem rich_steps : step rich = .next (after .tickAdvance { rich with pending := [.pop 0] }) := rfl

theorem witness_StepKeepsReferenceLaws : (LoadQuiet rich ∧ RefLaw rich ∧ RouteLaw rich) ∧ ∃ t, step rich = .next t :=
  ⟨rich_references, _, rich_steps⟩

theorem witness_StepKeepsPageLaws : (PageLaw rich ∧ SlotLaw rich) ∧ ∃ t, step rich = .next t := by
  refine ⟨⟨⟨by decide, by decide, ?_⟩, seg_cases (by decide) (by decide)⟩, _, rich_steps⟩
  intro p h hp
  have : ∀ q : Fin 32, rich.holders.get q =
      if q = 4 then some { seg := .a, slot := 0 } else if q = 5 then some { seg := .a, slot := 1 } else none := by decide
  rw [this p] at hp
  split at hp
  · subst_vars; cases hp; decide
  · split at hp
    · subst_vars; cases hp; decide
    · cases hp

theorem no_shadow_target : ∀ i, rich.loader.shadow.targets.get i = none := by decide

theorem witness_StepKeepsTargetPlacesDistinct :
    (PlacesDistinct rich ∧ ShadowPlacesDistinct rich ∧ LoadVacant rich) ∧ ∃ t, step rich = .next t := by
  refine ⟨⟨?_, ?_, fun h => absurd h (by decide)⟩, _, rich_steps⟩
  · have : ∀ i : Fin 32, (rich.target i).state ≠ .vacant → i = 3 := by decide
    intro i j hij hi hj
    exact absurd ((this i hi).trans (this j hj).symm) hij
  · intro i j c d _ hc
    rw [no_shadow_target i] at hc
    cases hc

theorem witness_StepKeepsQuarantineAndAlarmLaws :
    (QuarantineLaw rich ∧ AlarmLaw rich) ∧ ∃ t, step rich = .next t :=
  ⟨⟨by unfold QuarantineLaw; decide, by unfold AlarmLaw; decide⟩, _, rich_steps⟩

theorem rich_work : WorkLaw rich := by
  apply seg_cases
  · refine ⟨?_, ?_, ?_, ?_, by decide, by decide⟩
    · rintro it ⟨⟩; exact .inr (by decide)
    · rintro it o ⟨⟩ h; cases h
    · rintro it ⟨⟩
      refine ⟨?_, by decide⟩
      change Point.condition ≠ Point.free
      decide
    · rintro r ⟨⟩
  · refine ⟨?_, ?_, ?_, ?_, by decide, by decide⟩
    · rintro it ⟨⟩
    · rintro it o ⟨⟩
    · rintro it ⟨⟩
    · rintro r ⟨⟩

theorem witness_StepKeepsWorkLaws :
    (LoadQuiet rich ∧ WorkLaw rich ∧ HeadLaw rich ∧ ActiveLaw rich ∧ DisabledEmpty rich) ∧ ∃ t, step rich = .next t := by
  refine ⟨⟨rich_references.1, rich_work, seg_cases (by decide) (by decide), seg_cases ?_ ?_, seg_cases (by decide) (by decide)⟩,
    _, rich_steps⟩
  · refine ⟨by decide, ?_, fun _ _ => .inr ⟨_, rfl, rfl⟩⟩
    rintro it ⟨⟩ _; exact ⟨rfl, rfl⟩
  · refine ⟨by decide, ?_, fun _ h => nomatch h⟩
    rintro it ⟨⟩

theorem rich_ranges : RangeLaw rich := by
  refine ⟨⟨by decide, fun c h => nomatch h⟩, seg_cases ?_ ?_, by decide, by decide, by decide⟩
  · refine ⟨by decide, by decide, by decide, ?_, ?_, ?_, ?_⟩
    · intro d h
      change d ∈ [held 0 4 .active, held 1 5 .queued] at h
      have : d = held 0 4 .active ∨ d = held 1 5 .queued := by simpa using h
      rcases this with h | h <;> subst h <;> exact ⟨by decide, fun _ _ _ _ h => nomatch h⟩
    · rintro it ⟨⟩
      exact ⟨by rintro k p i w r pg ⟨⟩; decide, by decide, by decide, by decide, rfl⟩
    · rintro r ⟨⟩
    · rintro r ⟨⟩
  · refine ⟨by decide, by decide, by decide, ?_, ?_, ?_, ?_⟩ <;> rintro r ⟨⟩

/-- The laws at `rich`; and, for the counts, a data byte short of its end and a recovery in its ninth pulse. -/
theorem witness_StepKeepsRangesAndReservedBits :
    ((LoadQuiet rich ∧ RefLaw rich ∧ RouteLaw rich) ∧ RangeLaw rich ∧ WatermarkLaw rich ∧ ReservedLaw rich) ∧
    ∃ t, step rich = .next t := by
  refine ⟨⟨rich_references, rich_ranges, ⟨by decide, ?_⟩, ⟨by decide, by decide, ?_, by decide⟩⟩, _, rich_steps⟩
  · rintro e ⟨⟩
  · rintro e ⟨⟩

theorem witness_StepKeepsSweepLaws : (LoadQuiet rich ∧ RestLaw rich ∧ SweepLaw rich) ∧ ∃ t, step rich = .next t :=
  ⟨⟨rich_references.1, seg_cases (by decide) (by decide), fun _ => seg_cases (by decide) (by decide)⟩, _, rich_steps⟩

theorem witness_StepKeepsMemoryForm : MemoryLaw rich ∧ ∃ t, step rich = .next t := ⟨by unfold MemoryLaw; decide, _, rich_steps⟩

/-! #### Command Queues and Completion Ring -/

/-- Staging words of a READ of two bytes of entry 3 into page 4, as `test_submit` accepts it. -/
def stagedRead (target : Byte) (s : State) : State := staged (0x77#8 ++ target) 0x4804 0 0x0002 0 s

/-- Each outcome of SUBMIT: target 32, a VACANT entry, a QUARANTINED one, a DISABLED segment, a code that names no kind,
a length of 65, an index of 0100H at width 1, a lent page, a queue of 16, and acceptance at a queue of 15. -/
theorem witness_SubmitChecksThenAccepts :
    (HostReady (stagedRead 32 base) ∧ (stagedDescriptor (stagedRead 32 base).ds).target > 31) ∧
    (HostReady (stagedRead 31 base) ∧ (stagedDescriptor (stagedRead 31 base).ds).target = 31 ∧
      (base.target 31).state = .vacant) ∧
    ((targetIn .quarantined).target 3).state = .quarantined ∧ (inState .disabled).segA.state = .disabled ∧
    (stagedDescriptor (staged 0x7703 0xA804 0 0x0002 0 base).ds).kind = none ∧
    (after (.submit 0) (staged 0x7703 0x4804 0 0x0041 0 base)).cmdres = 0x0106 ∧
    (after (.submit 0) (staged 0x7703 0x5804 0x0100 0x0002 0 base)).cmdres = 0x0107 ∧
    (after (.submit 0) (stagedRead 3 rich)).cmdres = 0x0108 ∧
    (after (.submit 0) (stagedRead 3 (withA fun g => { g with queue := List.replicate 16 (held 0 5 .queued) }))).cmdres =
      0x0109 ∧
    (after (.submit 0) (stagedRead 3 (withA fun g => { g with queue := List.replicate 15 (held 0 5 .queued) }))).cmdres =
      0x0100 :=
  ⟨⟨⟨rfl, by decide⟩, by decide⟩, ⟨⟨rfl, by decide⟩, by decide⟩, by decide⟩

theorem witness_PopTakesTheOldestEntry :
    (({ entry with attempts := 8, writeCount := 64, readCount := 64 } : Completion).attempts ≤ 8) ∧
    (loading.rstnLow = false ∧ loading.loader.state = .loading) ∧
    (base.rstnLow = false ∧ base.loader.state ≠ .loading ∧ base.ring = []) ∧
    (retiring.rstnLow = false ∧ retiring.loader.state ≠ .loading ∧ retiring.ring = entry :: List.replicate 30 entry) := by
  decide

/-- Each clause of the cut, by the phase and point it finds; the first part holds at a state without an item and at one
whose cut mark is already set. -/
theorem witness_AbortCancelsAndCuts :
    (∀ it, base.segA.item = some it → it.supplier = .queue → it.cut = true) ∧
    (∀ it, (running { itemIn .dataOut with cut := true }).segA.item = some it → it.supplier = .queue → it.cut = true) ∧
    ∀ ph pt, HostReady (running (itemAt ph pt)) ∧ ((running (itemAt ph pt)).seg .a).item = some (itemAt ph pt) ∧
      (itemAt ph pt).supplier = .queue ∧ (itemAt ph pt).cut = false ∧ (itemAt ph pt).target = some 3 ∧
      (itemAt ph pt).phase = ph ∧ (itemAt ph pt).point = pt := by
  refine ⟨?_, ?_, fun ph pt => ⟨⟨rfl, ?_⟩, rfl, rfl, rfl, rfl, rfl, rfl⟩⟩
  · rintro it ⟨⟩
  · rintro it ⟨⟩ _; rfl
  · intro h; cases h

/-- The tick of the deadline, and the one before it. -/
theorem witness_DeadlineExpiresQueuedDescriptor :
    let s := fun (now : Tick) => { withA fun g => { g with queue := [held 0 4 .active, held 1 5 .queued] } with tick := now }
    (s 10).rstnLow = false ∧ ((s 10).seg .a).queue[(1 : Fin 16).val]? = some (held 1 5 .queued) ∧
    (held 1 5 .queued).deadline ≠ 0 ∧ (held 1 5 .queued).deadline.toNat ≤ ((s 10).tick - 0).toNat ∧
    ((s 9).tick - 0).toNat < (held 1 5 .queued).deadline.toNat ∧ (held 0 4 .active).state ≠ .queued := by decide

theorem witness_HeadFinishesThenRetires :
    let told : HeadReport := { outcome := .ok, attempts := 1, writeCount := 0, readCount := 2 }
    let s := withA fun g => { g with queue := [held 0 4 .active], headReport := some told }
    (s.rstnLow = false ∧ (s.seg .a).queue = [held 0 4 .active] ∧ (s.seg .a).headReport = some told) ∧
    ((retiring.seg .a).queue = [held 0 4 .cancelled] ∧ (held 0 4 .cancelled).state = .cancelled ∧
      retiring.ring.length < 32) ∧
    (({ retiring with ring := List.replicate 32 entry } : State).ring.length = 32 ∧ retiring.ring.length ≤ 32) ∧
    (held 0 4 (.finished .ok 1 0 2)).state = .finished .ok 1 0 2 ∧ (held 0 4 .expired).state = .expired := by decide

/-! #### Segment commands -/

/-- The clauses of the segment commands, one for each segment state they ask for. -/
theorem witness_PauseAndResumeMoveTheSegmentState :
    ∀ st, HostReady (inState st) ∧ ((inState st).seg .a).state = st := by
  intro st; exact ⟨⟨rfl, by intro h; cases h⟩, rfl⟩

theorem witness_SegEnableAndSegDisable :
    (∀ st, HostReady (inState st) ∧ ((inState st).seg .a).state = st ∧ ((inState st).seg .a).queue = []) ∧
    HostReady (running (itemIn .dataOut)) ∧ ((running (itemIn .dataOut)).seg .a).queue ≠ [] := by
  refine ⟨fun st => ⟨⟨rfl, by intro h; cases h⟩, rfl, rfl⟩, ⟨rfl, by decide⟩, by decide⟩

/-- The staged words of the power-on configuration with alert enable set, at the least holdoff. -/
def stagedSegment (share : BitVec 4) (alert : Bool) (s : State) : State :=
  { s with ss := #v[0x2319, 0x2#4 ++ share ++ 0#7 ++ BitVec.ofBool alert, 0x0001] }

/-- Poll shares 1 and 8 are legal, 0 and 9 are not; a watching segment, one that stops, and one that begins to watch. -/
theorem witness_SegWriteStoresTheConfiguration :
    ((stagedSeg (stagedSegment 1 true base).ss).isSome = true ∧ (stagedSeg (stagedSegment 8 true base).ss).isSome = true ∧
      stagedSeg (stagedSegment 0 true base).ss = none ∧ stagedSeg (stagedSegment 9 true base).ss = none) ∧
    HostReady (stagedSegment 8 true (inState .paused)) ∧ (inState .paused).segA.cfg.alertEnable = false ∧
    (withA fun g => { g with state := .paused, cfg := { g.cfg with alertEnable := true } }).segA.cfg.alertEnable = true ∧
    (inState .ready).segA.state ≠ .disabled ∧ (inState .ready).segA.state ≠ .paused :=
  ⟨by decide, ⟨rfl, by decide⟩, by decide⟩

theorem witness_SegReadCopiesTheConfiguration : HostReady base := ready_base

theorem witness_RecoverBeginsARecovery :
    (HostReady (inState .halted) ∧ ((inState .halted).seg .a).state = .halted) ∧
    HostReady base ∧ (base.seg .a).state ≠ .halted := ⟨⟨⟨rfl, by decide⟩, rfl⟩, ready_base, by decide⟩

/-! #### Target Table -/

/-- Staged configured fields of a place on segment A, width 1. -/
def stagedPlaceA (address : BitVec 7) (s : State) : State :=
  { s with ts := #v[0#1 ++ address ++ 0x44#8, 0x2000, 0, 0, 0, 0] }

/-- The addresses at the ends of the legal range and beside them, a staged place taken by entry 3, and a free one. -/
theorem witness_TgtWriteAndClearEditTheEntry :
    (HostReady rich ∧ (3 : Byte).toNat < 32 ∧ 0 < (rich.target (idx32 (3 : Byte).toNat)).refs) ∧
    ((stagedTarget (stagedPlaceA 0x07 base).ts = none ∧ stagedTarget (stagedPlaceA 0x78 base).ts = none) ∧
      (stagedTarget (stagedPlaceA 0x08 base).ts).isSome = true ∧
      (stagedTarget (stagedPlaceA 0x77 base).ts).isSome = true) ∧
    (HostReady base ∧ (base.target 31).refs = 0 ∧ (base.target 31).state = .vacant ∧
      (stagedTarget (stagedPlaceA 0x48 base).ts).map (·.address) = some (base.target 3).cfg.address ∧
      (base.target 3).state ≠ .vacant) ∧
    ∀ j, j ≠ (31 : Fin 32) → (base.target j).state ≠ .vacant → (base.target j).cfg.segment = .a →
      (base.target j).cfg.address ≠ 0x77 :=
  ⟨⟨ready_rich, by decide⟩, by decide, ⟨ready_base, by decide⟩, by decide⟩

theorem witness_TgtReleaseAndAckAlertActOnOneEntry :
    HostReady (targetIn .quarantined) ∧ (31 : Byte).toNat < 32 ∧
    ((targetIn .quarantined).target (idx32 (31 : Byte).toNat)).state = .vacant ∧
    ((targetIn .quarantined).target (idx32 (3 : Byte).toNat)).state ≠ .vacant := ⟨⟨rfl, by decide⟩, by decide⟩

theorem witness_TgtReadAndPollReadCopyTheEntry :
    HostReady base ∧ ((31 : Byte).toNat < 32 ∧ (base.target (idx32 (31 : Byte).toNat)).state = .vacant) ∧
    (base.target (idx32 (3 : Byte).toNat)).state ≠ .vacant ∧ (23 : Byte).toNat < 24 := ⟨ready_base, by decide⟩

/-- Images of legal fields, at the ends of the ranges of the counts. -/
theorem witness_ImagesReadBackAsTheSameFields :
    (stagedTarget (targetImage target3) = some target3.cfg ∧ target3.state ≠ .vacant) ∧
    (stagedPoll (pollImage poll2)).isSome = true ∧
    (stagedPoll (pollImage { poll2 with lastValue := 60000 }) = some { poll2.cfg with phase := 60000 } ∧
      stagedPoll (pollImage { poll2 with lastValue := 60001 }) = none) ∧
    (stagedSeg (segImage .powerOn) = some .powerOn) ∧
    (({ target3 with failures := 15, refs := 40 } : Target).failures ≤ 15) ∧
    (({ poll2 with misses := 15, overruns := 255 } : Poll).overruns ≤ 255) := by decide

/-- Segment A with one report to the Target Table waiting. -/
def reporting (own dropped : Bool) (body : ReportBody) (s : State) : State :=
  { s with segA := { s.segA with
    tableReports := [{ target := 3, ofDescriptor := own, dropped := dropped, body := body }] } }

theorem witness_PresenceReportMarksTheTarget :
    ∀ own dropped, (reporting own dropped .presence base).rstnLow = false ∧
      ((reporting own dropped .presence base).seg .a).tableReports =
        [{ target := 3, ofDescriptor := own, dropped := dropped, body := .presence }] := fun _ _ => ⟨rfl, rfl⟩

/-- An outcome, and each case of an alert read: dropped, a masked bit on a clear and on a set flag, no masked bit. -/
theorem witness_OutcomeReportsAreJudged :
    (∀ own dropped body, (reporting own dropped body base).rstnLow = false ∧
      ((reporting own dropped body base).seg .a).tableReports =
        [{ target := 3, ofDescriptor := own, dropped := dropped, body := body }]) ∧
    (0x08 &&& (base.target 3).cfg.alertMask ≠ 0 ∧ (base.target 3).alerting = false) ∧
    0xF0 &&& (base.target 3).cfg.alertMask = 0 ∧
    (({ base with targets := vset base.targets 3 { target3 with alerting := true } } : State).target 3).alerting = true :=
  ⟨fun _ _ _ => ⟨rfl, rfl⟩, by decide⟩

/-! #### Poll Unit -/

/-- The ends of the period's and the phase's range, and the limits of an OUTSIDE entry in both signednesses. -/
theorem witness_PollWriteStoresTheConfiguredFields :
    ({ poll2.cfg with period := 1 }.legal = true ∧ { poll2.cfg with period := 60000 }.legal = true ∧
      { poll2.cfg with period := 0 }.legal = false ∧ { poll2.cfg with phase := 60001 }.legal = false ∧
      { poll2.cfg with width := 3 }.legal = false ∧ { poll2.cfg with staleLimit := 0 }.legal = false ∧
      { poll2.cfg with mode := .outside, low := 0xFFFF, high := 0 }.legal = true ∧
      { poll2.cfg with mode := .outside, low := 0xFFFF, high := 0, signed := false }.legal = false) ∧
    (HostReady (polled poll2 0) ∧ (2 : Byte).toNat < 24 ∧ ((polled poll2 0).poll (idx24 (2 : Byte).toNat)).enabled = true) ∧
    (HostReady { base with ps := pollImage poll2 } ∧ (23 : Byte).toNat < 24 ∧
      (base.poll (idx24 (23 : Byte).toNat)).enabled = false ∧ stagedPoll base.ps = none ∧
      (stagedPoll (pollImage poll2)).isSome = true) :=
  ⟨by decide, ⟨⟨rfl, by decide⟩, by decide⟩, ⟨rfl, by decide⟩, by decide⟩

/-- An enabled entry, and disabled ones: of a VACANT target, of a register index past width 1, and at its end. -/
theorem witness_PollEnableAndDisable :
    let off := fun (register : Word) => { poll2 with enabled := false, cfg := { poll2.cfg with register := register } }
    (HostReady (polled poll2 0) ∧ (2 : Byte).toNat < 24 ∧ ((polled poll2 0).poll (idx24 (2 : Byte).toNat)).enabled = true) ∧
    (HostReady (polled (off 0x100) 0) ∧ ((polled (off 0x100) 0).poll 2).enabled = false ∧
      ((polled (off 0x100) 0).target 3).cfg.width = 1 ∧ 0xFF < ((polled (off 0x100) 0).poll 2).cfg.register.toNat) ∧
    ((polled (off 0xFF) 0).poll 2).cfg.register.toNat ≤ 0xFF ∧
    ((polled (off 0xFF) 0).target ((polled (off 0xFF) 0).poll 23).cfg.target).state = .vacant :=
  ⟨⟨⟨rfl, by decide⟩, by decide⟩, ⟨⟨rfl, by decide⟩, by decide⟩, by decide⟩

/-- An overrun owed at exactly one period past the due tick; a miss owed at the due tick of a QUARANTINED target; and an
entry that owes nothing. -/
theorem witness_OverrunsAndQuarantineMissesAreTaken :
    let s := polled { poll2 with owed := .overrun } 1005
    let q := { polled { poll2 with owed := .miss } 5 with targets := (targetIn .quarantined).targets }
    (s.rstnLow = false ∧ (s.poll 2).owed = .overrun ∧ (s.poll 2).enabled = true ∧ (s.seg .a).state ≠ .disabled ∧
      (s.tick - (s.poll 2).nextDue).toNat = (s.poll 2).cfg.period.toNat ∧ (s.target 3).state ≠ .quarantined) ∧
    (q.rstnLow = false ∧ (q.poll 2).owed = .miss ∧ (q.poll 2).enabled = true ∧ (q.tick - (q.poll 2).nextDue).toNat = 0 ∧
      (q.target 3).state = .quarantined) ∧
    ((polled poll2 5).poll 2).owed = .nothing := by decide

theorem witness_TickAdvanceCountsAndFindsOverdues :
    ((polled poll2 1004).rstnLow = false ∧ (polled poll2 1004).wires = []) ∧
    ({ polled poll2 1004 with wires := [[(.a, .held)]] } : State).wires = [(.a, .held)] :: [] := ⟨⟨rfl, rfl⟩, rfl⟩

/-- Segment A with one poll report waiting. -/
def pollReporting (p : Poll) (grant : Nat) (o : TxOutcome) : State :=
  { polled p 0 with
    segA := { base.segA with pollReports := [{ entry := 2, grant := grant, outcome := o, bytes := [0x00, 0x51] }] } }

theorem witness_PollReadReportIsTakenByItsGrant :
    ∀ p grant o, (pollReporting p grant o).rstnLow = false ∧
      ((pollReporting p grant o).seg .a).pollReports =
        [{ entry := 2, grant := grant, outcome := o, bytes := [0x00, 0x51] }] ∧
      (pollReporting p grant o).poll 2 = p ∧ poll2.cfg.width = 2 := fun _ _ _ => ⟨rfl, rfl, rfl, rfl⟩

/-- The value 81 above a limit of 80 makes an ABOVE entry HIGH and sets its flag (R152, R153, R156). -/
theorem test_good_read :
    let s := after (.pollReadReport .a) (pollReporting { poll2 with mark := .current, latestGrant := 7 } 7 .ok)
    (s.poll 2).lastValue = 81 ∧ (s.poll 2).alarm = .high ∧ (s.poll 2).flag = true ∧ (s.poll 2).mark = .none := by decide

theorem witness_JudgementFollowsTheTables :
    (∀ m, { poll2.cfg with mode := m }.mode = m) ∧ { poll2.cfg with width := 1 }.width = 1 ∧ poll2.cfg.width = 2 :=
  ⟨fun _ => rfl, rfl, rfl⟩

/-! #### Alert Resolvers -/

/-- Segment A READY with alert enable set, its resolver and line as given. -/
def watchingA (r : Resolver) (low : Bool) : State :=
  withA fun g => { g with cfg := { g.cfg with alertEnable := true }, resolver := r, alertLow := low }

/-- A resolver that sweeps from a cursor. -/
def sweeping (cursor : Nat) : Resolver := { Resolver.atRest with state := .sweeping, cursor := cursor }

/-- A line that is looked at, with entry 3 to read and (on `State.reset`'s table) with none; a sweep with entry 3 left at
cursor 3 and with none left at cursor 4; and one whose read is outstanding. -/
theorem witness_SweepsBeginAndEndByTheirTests :
    let s := watchingA .atRest true
    ((s.seg .a).cfg.alertEnable = true ∧ (s.seg .a).state ≠ .disabled ∧ (s.seg .a).resolver.state = .idle ∧
      (s.seg .a).alertLow = true ∧ (s.target 3).state ≠ .vacant ∧ (s.target 3).cfg.segment = .a ∧
      (s.target 3).cfg.alertCapable = true ∧ (s.target 3).state ≠ .quarantined) ∧
    (∀ i : Fin 32, (State.reset.target i).state = .vacant) ∧
    ((watchingA (sweeping 3) true).segA.resolver.cursor = 3 ∧ (watchingA (sweeping 3) true).segA.resolver.outstanding = false) ∧
    (∀ i : Fin 32, 4 ≤ i.val → ((watchingA (sweeping 4) true).target i).state = .vacant) ∧
    ({ sweeping 4 with outstanding := true } : Resolver).outstanding = true := by decide

/-- A holdoff of 50 at its last tick and at its end, on both levels of the line, and a result that waits. -/
theorem witness_AlertHappeningsMoveTheResolver :
    let r : Resolver := { Resolver.atRest with state := .holdoff, holdLen := 50 }
    let s := fun (now : Tick) (low : Bool) => { watchingA r low with tick := now }
    let t := withA fun g => { g with alertResults := [.masked], resolver := { sweeping 4 with outstanding := true } }
    (∀ low, (s 50 low).rstnLow = false ∧ (s 50 low).segA.resolver.state = .holdoff ∧ (s 50 low).segA.alertLow = low ∧
      (s 50 low).segA.resolver.holdLen.toNat = ((s 50 low).tick - (s 50 low).segA.resolver.holdStart).toNat) ∧
    ((s 49 true).tick - (s 49 true).segA.resolver.holdStart).toNat < (s 49 true).segA.resolver.holdLen.toNat ∧
    (t.rstnLow = false ∧ (t.seg .a).alertResults = .masked :: [] ∧ (t.seg .a).resolver.outstanding = true) ∧
    ((withA fun g => { g with alertResults := [.masked] }).segA.resolver.outstanding = false ∧
      base.segA.alertResults = []) := by decide

/-- A sweep that finds nothing on a low line sets UNRESOLVED and holds off (R164). -/
theorem test_unresolved :
    let s := after (.alertLineChange .a true) { watchingA .atRest false with targets := State.reset.targets }
    s.segA.resolver.state = .holdoff ∧ s.latched = 0x0200 := by decide

/-! #### Segment Arbiter -/

theorem witness_GrantTakesAnAlertReadFirst :
    (watchingA (sweeping 3) true).rstnLow = false ∧ ((watchingA (sweeping 3) true).seg .a).state = .ready ∧
    NextAlert (watchingA (sweeping 3) true) .a 3 := by
  refine ⟨rfl, rfl, .inr rfl, rfl, by decide, fun j hj => ?_⟩
  have : ∀ j : Fin 32, ((watchingA (sweeping 3) true).target j).state ≠ .vacant → 3 ≤ j := by decide
  exact this j hj.2.1

/-- `polled poll2` at its due tick, with a QUEUED head and the streak given. -/
def dueA (streak : Nat) : State :=
  { polled poll2 5 with segA := { base.segA with queue := [held 0 4 .queued], streak := streak } }

theorem no_alert (streak : Nat) : ∀ j, ¬ NextAlert (dueA streak) .a j := by
  rintro j ⟨h | h, _⟩ <;> cases h

theorem dueA_enabled (streak : Nat) : ∀ j : Fin 24, ((dueA streak).poll j).enabled = true → j = 2 := by
  show ∀ j : Fin 24, ((vset base.polls 2 poll2).get j).enabled = true → j = 2
  decide

theorem dueA_next : NextPoll (dueA 4) .a 2 :=
  ⟨by decide, fun j h => .inr (by rw [dueA_enabled 4 j h.1]; exact ⟨rfl, le_refl _⟩)⟩

/-- The streak at the poll share of 4. -/
theorem witness_GrantTakesTheEarliestPoll :
    (dueA 4).rstnLow = false ∧ ((dueA 4).seg .a).state = .ready ∧ (∀ j, ¬ NextAlert (dueA 4) .a j) ∧
    NextPoll (dueA 4) .a 2 ∧
    ∀ d rest, ((dueA 4).seg .a).queue = d :: rest → d.state = .queued →
      ((dueA 4).seg .a).cfg.pollShare.toNat ≤ ((dueA 4).seg .a).streak :=
  ⟨rfl, rfl, no_alert 4, dueA_next, fun _ _ _ _ => by decide⟩

/-- A head below the poll share, on a target that runs and on a QUARANTINED one; and a segment that is not READY. -/
theorem witness_GrantTakesTheQueuedHead :
    (dueA 3).rstnLow = false ∧ ((dueA 3).seg .a).state = .ready ∧ (∀ j, ¬ NextAlert (dueA 3) .a j) ∧
    ((dueA 3).seg .a).queue = [held 0 4 .queued] ∧ (held 0 4 .queued).state = .queued ∧
    ((dueA 3).seg .a).streak < ((dueA 3).seg .a).cfg.pollShare.toNat ∧ ((dueA 3).target 3).state ≠ .quarantined ∧
    ((targetIn .quarantined).target 3).state = .quarantined ∧ ((inState .paused).seg .a).state ≠ .ready :=
  ⟨rfl, rfl, no_alert 3, by decide⟩

/-! #### Segment Engine and recovery -/

/-- `running` at a tick. -/
def runningAt (it : Item) (now : Tick) : State := { running it with tick := now }

/-- A loader read at a point of a phase. -/
def loaderItem (ph : Phase) (pt : Point) : Item := { Item.loaderPiece 0 0 0 with phase := ph, point := pt }

/-- Each phase and point with its item in flight; a bus-free check and a hold at the last tick of the power-on timeouts of 35
and 25 ms and past it; a byte sent as 00H and one that is not; the last byte of a read of either sort and the one before it. -/
theorem witness_FaultsEndTheItemAndBeginRecovery :
    (∀ it now, (runningAt it now).rstnLow = false ∧ ((runningAt it now).seg .a).item = some it) ∧
    (∀ ph pt, (itemAt ph pt).phase = ph ∧ (itemAt ph pt).point = pt ∧ (itemAt ph pt).hold = none) ∧
    (∀ it now, ((runningAt it now).seg .a).recovery = none ∧ ({ it with hold := some now } : Item).hold ≠ none) ∧
    ((itemIn .opening).supplier ≠ .loader ∧ (loaderItem .opening .free).supplier = .loader) ∧
    (base.segA.cfg.busFree.toNat < ((36 : Tick) - 0).toNat ∧ ((35 : Tick) - 0).toNat ≤ base.segA.cfg.busFree.toNat) ∧
    (base.segA.cfg.stretch.toNat < ((36 : Tick) - 10).toNat ∧ ((35 : Tick) - 10).toNat ≤ base.segA.cfg.stretch.toNat) ∧
    (byteSent base.mem (itemIn (.index 0)) = some 0x12 ∧ byteSent base.mem (itemIn .dataOut) = some 0) ∧
    ((itemAt (.dataIn 2) .ninth).readCount < 2 ∧ 2 ≤ ({ itemAt (.dataIn 2) .ninth with readCount := 2 } : Item).readCount) ∧
    ((loaderItem (.dataIn 16) .ninth).bytes.length + 1 < 16 ∧
      16 ≤ ({ loaderItem (.dataIn 16) .ninth with bytes := List.replicate 15 0 } : Item).bytes.length + 1) ∧
    (let ready := fun (i : Item) => decide (i.hold = none) && mismatchPossible base.mem i
     (itemIn .opening).bringTo ready 0 = some (itemAt .opening .bits) ∧ (itemIn .gap).bringTo ready 0 = none) :=
  ⟨fun _ _ => ⟨rfl, rfl⟩, fun _ _ => ⟨rfl, rfl, rfl⟩, fun _ _ => ⟨rfl, nofun⟩, by decide⟩

/-- Attempts at the retry limit and past it; the last index byte and one before it; points inside and outside the byte. -/
theorem witness_SentBytesGoOnByTheirAnswer :
    (∀ ph pt, (running (itemAt ph pt)).rstnLow = false ∧ ((running (itemAt ph pt)).seg .a).item = some (itemAt ph pt) ∧
      (itemAt ph pt).phase = ph ∧ (itemAt ph pt).point = pt ∧ (itemAt ph pt).hold = none) ∧
    ((itemIn .opening).attempts ≤ (itemIn .opening).retryLimit.toNat ∧
      ({ itemIn .opening with attempts := 2 } : Item).retryLimit.toNat < 2) ∧
    ((itemIn (.index 0)).plan.index.length = 1 ∧ ({ itemIn (.index 0) with width := 2 } : Item).plan.index.length = 2) ∧
    ({ itemIn .restart with cut := true } : Item).cut = true ∧
    (let atNinth := fun (i : Item) => decide (i.hold = none) && decide (i.point = .ninth) && i.phase.hasByte
     ({ itemIn .restart with hold := some 0 } : Item).bringTo atNinth 0 = some (itemAt .restart .ninth) ∧
      (itemIn (.dataIn 2)).bringTo atNinth 0 = none) := ⟨fun _ _ => ⟨rfl, rfl, rfl, rfl, rfl⟩, by decide⟩

/-- Every kind with lengths at the ends of its row of Table 2-2, and the poll, alert and loader forms. -/
theorem witness_PhasesFollowTheKind :
    (LengthRow .probe 0 0 ∧ LengthRow .write 1 0 ∧ LengthRow .write 64 0 ∧ LengthRow .read 0 1 ∧ LengthRow .read 0 64 ∧
      LengthRow .writeRead 1 64 ∧ LengthRow .writeRead 64 1 ∧ LengthRow .blockRead 0 1 ∧ LengthRow .blockRead 0 64) ∧
    ((itemIn .opening).form = .descriptor .read true 0x0012 0 2 (some 4) ∧ (itemIn .opening).width = 1) ∧
    ((loaderItem .opening .free).form = .loaderRead 0 ∧ (loaderItem .opening .free).width = 2) ∧
    (recordOf target3 3 .alert (.alertRead 0x10) 0).form = .alertRead 0x10 ∧
    (recordOf target3 3 (.poll 2 0) (.pollRead 5 2) 0).form = .pollRead 5 2 ∧
    (recordOf { target3 with cfg := { target3.cfg with width := 0 } } 3 (.poll 2 0) (.pollRead 0 0) 0).width = 0 := by
  simp only [LengthRow]; decide

/-- A block read of a read length of 2: the lengths 0, 1, 2 and 3 that its length byte may give. -/
def blockItem (pt : Point) : Item :=
  { itemAt .lengthByte pt with form := .descriptor .blockRead true 0x0012 0 2 (some 4) }

theorem witness_ReceivedBytesAreStoredAndCounted :
    (∀ it, (running it).rstnLow = false ∧ (running it).mem.wf = true ∧ ((running it).seg .a).item = some it) ∧
    (∀ pt, (itemAt (.dataIn 2) pt).form = .descriptor .read true 0x0012 0 2 (some 4) ∧
      (itemAt (.dataIn 2) pt).phase = .dataIn 2 ∧ (itemAt (.dataIn 2) pt).point = pt ∧
      (itemAt (.dataIn 2) pt).hold = none) ∧
    ((blockItem .ninth).form = .descriptor .blockRead true 0x0012 0 2 (some 4) ∧
      (blockItem .ninth).phase = .lengthByte ∧ (blockItem .ninth).point = .ninth ∧ (blockItem .ninth).hold = none) ∧
    ((loaderItem (.dataIn 16) .ninth).form = .loaderRead 0 ∧ (loaderItem (.dataIn 16) .ninth).phase = .dataIn 16) ∧
    ({ itemAt (.dataIn 0) .ninth with form := .pollRead 0 0 }.phase = .dataIn 0) ∧
    (¬ 1 ≤ (0 : Byte).toNat ∧ 1 ≤ (1 : Byte).toNat ∧ (2 : Byte).toNat ≤ 2 ∧ ¬ (3 : Byte).toNat ≤ 2) :=
  ⟨fun _ => ⟨rfl, rfl, rfl⟩, fun _ => ⟨rfl, rfl, rfl, rfl⟩, by decide⟩

/-- The gap of 2 ms at its end and one tick before it; closing stops with an outcome that is no fault. -/
theorem witness_StopsLeadToTheGapOrTheEnd :
    (∀ it now, (runningAt it now).rstnLow = false ∧ ((runningAt it now).seg .a).item = some it) ∧
    ((itemIn .gap).phase = .gap ∧ base.segA.cfg.retryGap.toNat = ((2 : Tick) - (itemIn .gap).since).toNat ∧
      ((1 : Tick) - (itemIn .gap).since).toNat < base.segA.cfg.retryGap.toNat) ∧
    ((itemIn (.stop (.ended .ok))).phase = .stop (.ended .ok) ∧ TxOutcome.ok ≠ .stretchTimeout ∧ TxOutcome.ok ≠ .busFault ∧
      (itemIn (.stop (.ended .ok))).supplier ≠ .loader ∧ (loaderItem (.stop (.ended .ok)) .condition).supplier = .loader) ∧
    (({ itemIn .restart with cut := true } : Item).phase = .restart ∧ (itemIn .restart).point = .condition) :=
  ⟨fun _ _ => ⟨rfl, rfl⟩, by decide⟩

/-- Segment A in RECOVERY at a tick. -/
def recovering (r : Recovery) (now : Tick) : State :=
  { withA fun g => { g with state := .recovery, recovery := some r } with tick := now }

/-- A recovery has both lines released in its opening and in the hold of a pulse, and pulls SDAx low in its stop (R125 to
R127). -/
theorem test_recovery_lines :
    (linesReleased (recovering (.mk 0 .opening none) 0) .a = true ∧
      linesReleased (recovering (.mk 0 .pulse (some { since := 0, limit := 25 })) 0) .a = true) ∧
    linesReleased (recovering (.mk 0 .stop (some { since := 0, limit := 25 })) 0) .a = false := by decide

/-- Every stage with the pulse counts at the ends of its clauses, in and out of a hold; a hold of 25 ms at its last tick and
past it. -/
theorem witness_RecoverySucceedsOrHalts :
    (∀ r now, (recovering r now).rstnLow = false ∧ ((recovering r now).seg .a).item = none ∧
      ((recovering r now).seg .a).recovery = some r) ∧
    (25 < ((36 : Tick) - 10).toNat ∧ ((35 : Tick) - 10).toNat ≤ 25) ∧
    (0 < 9 ∧ 8 < 9 ∧ (Recovery.mk 7 .pulse none).pulses < 8 ∧ 8 ≤ (Recovery.mk 8 .pulse none).pulses ∧
      (Recovery.mk 8 .stop none).pulses < 9 ∧ 9 ≤ (Recovery.mk 9 .stop none).pulses) ∧
    (Recovery.mk 0 .opening none).run (List.replicate 9 false) = some (.on (Recovery.mk 8 .pulse none)) :=
  ⟨fun _ _ => ⟨rfl, rfl, rfl⟩, by decide⟩

/-! #### Configuration load and resets -/

/-- A load whose read has reported. -/
def loaded (o : TxOutcome) (bytes : List Byte) : State :=
  { loading with loader := { loading.loader with report := some { outcome := o, second := false, bytes := bytes } } }

/-- A read that failed, and OK reads whose records are bad, ask for more, or end the list well. -/
theorem witness_LoaderReadReportMovesTheLoad :
    (∀ o bytes, (loaded o bytes).rstnLow = false ∧ (loaded o bytes).loader.state = .loading ∧
      (loaded o bytes).loader.report = some { outcome := o, second := false, bytes := bytes }) ∧
    TxOutcome.nackAddress ≠ .ok ∧
    ((∃ m, walk 2 { loading.loader with bytes := [0x05] } = .failed .badType m) ∧
      (∃ m, walk 2 { loading.loader with bytes := [0x01] } = .more m) ∧
      ∃ m, walk 5 { loading.loader with bytes := [0xFF, 0x00, 0x00, 0xFF] } = .good m) ∧
    (loading.loader.good ≤ 255 ∧ loading.loader.offset ≤ 4095) :=
  ⟨fun _ _ => ⟨rfl, rfl, rfl⟩, by decide, ⟨⟨_, rfl⟩, ⟨_, rfl⟩, ⟨_, rfl⟩⟩, by decide⟩

/-- Each clause of Table 11-1: a good body, each of its fields at the ends of its range and beside them, an entry written
before, a place taken, a target not written, and an index that width 1 cannot carry. -/
theorem witness_records_of_LoaderReadReportMovesTheLoad :
    let ok := fun (r : Except LoadReason Shadow) => match r with | .ok _ => LoadReason.none | .error e => e
    let seg := fun (gap share alert : Byte) => [0x01, 0x23, 0x19, gap, share, alert, 0x32, 0x01]
    let tgt := fun (i a f t : Byte) => [i, 0x00, a, f, t, 0x00, 0x00, 0x0F]
    let poll := fun (i e t r : Byte) => [i, e, 0x21, t, r, 0x08, 0x00, 0x01, 0, 0, 0, 0, 0, 0, 0, 0x10]
    let with4 := { Shadow.empty with targets := vset Shadow.empty.targets 4 (some target3.cfg) }
    (ok (checkBody .empty 0x01 (seg 15 8 1)) = .none ∧ ok (checkBody .empty 0x01 (seg 16 8 1)) = .badField ∧
      ok (checkBody .empty 0x01 (seg 15 9 1)) = .badField ∧ ok (checkBody .empty 0x01 (seg 15 1 2)) = .badField ∧
      ok (checkBody { Shadow.empty with segB := some (.powerOn, true) } 0x01 (seg 0 1 0)) = .duplicate) ∧
    (ok (checkBody .empty 0x02 (tgt 31 0x08 0x40 15)) = .none ∧ ok (checkBody .empty 0x02 (tgt 32 0x08 0x40 15)) = .badField ∧
      ok (checkBody .empty 0x02 (tgt 31 0x08 0x40 16)) = .badField ∧ ok (checkBody .empty 0x02 (tgt 31 0x08 0xC0 0)) = .badField ∧
      ok (checkBody with4 0x02 (tgt 4 0x08 0x40 0)) = .duplicate ∧ ok (checkBody with4 0x02 (tgt 5 0x48 0x40 0)) = .duplicate) ∧
    (ok (checkBody with4 0x03 (poll 23 1 4 0)) = .none ∧ ok (checkBody with4 0x03 (poll 24 1 4 0)) = .badField ∧
      ok (checkBody with4 0x03 (poll 23 1 5 0)) = .undefinedTarget ∧ ok (checkBody with4 0x03 (poll 23 1 4 1)) = .badField ∧
      ok (checkBody with4 0x03 (poll 23 0 4 1)) = .none ∧
      ok (checkBody { with4 with polls := vset with4.polls 0 (some (poll2.cfg, true)) } 0x03 (poll 0 1 5 0)) = .duplicate) ∧
    (ok (checkBody .empty 0x04 [0, 0, 0x80, 32]) = .none ∧ ok (checkBody .empty 0x04 [0, 0, 0x80, 33]) = .badField ∧
      ok (checkBody .empty 0x04 [0, 0, 0x01, 1]) = .badField ∧
      ok (checkBody { Shadow.empty with events := some { mask := 0, mode := .writeOne, watermark := 1 } } 0x04 [0, 0, 0, 1]) =
        .duplicate) := by decide

theorem witness_CommitStoresTheShadowTables : LoadQuiet loading ∧ loading.loader.state = .loading :=
  ⟨fun _ => seg_cases ⟨rfl, rfl⟩ ⟨rfl, rfl⟩, rfl⟩

theorem witness_SoftResetClearsWorkAndKeepsConfiguration : HostReady rich := ready_rich

theorem witness_ReloadClearsAndBeginsTheLoad : HostReady rich := ready_rich

/-- RELOAD empties the table and begins the first read at 50H plus CFGADR (R189, R182). -/
theorem test_reload :
    let s := after (.reload 0) { rich with cfgadr := 2 }
    (s.target 3).state = .vacant ∧ s.loader.state = .loading ∧ s.segA.item.map (·.address) = some 0x52 := by decide

theorem witness_PowerOnResetAndRstnLow :
    let s := after .rstnLow rich
    s.rstnLow = true ∧ exec .tickAdvance s = .next (after .tickAdvance s) ∧
    (base.seg .a).item = none ∧ (base.seg .a).recovery = none := ⟨rfl, rfl, rfl, rfl⟩

/-! #### Host accesses that are no commands -/

theorem witness_PagePortReadsAndStores :
    (base.rstnLow = false ∧ base.mem.wf = true ∧ base.holders.get (idx32 base.ptrPage.toNat) = none) ∧
    (rich.rstnLow = false ∧ rich.mem.wf = true ∧
      (({ rich with ptrPage := 4 } : State).holders.get (idx32 (4 : BitVec 5).toNat)).isSome = true) := by decide

theorem witness_TickReadCapturesTheHighHalf :
    base.rstnLow = false ∧ exec .tickAdvance base = .next (after .tickAdvance base) ∧ Instr.tickAdvance ≠ .tickLoRead ∧
    ∀ e a f, Instr.tickAdvance ≠ .powerOnReset e a f := ⟨rfl, rfl, by decide, fun _ _ _ h => nomatch h⟩

theorem witness_EventReadsAndWritesActByTheClearMode :
    (base.rstnLow = false ∧ base.clearMode = .writeOne) ∧
    (({ base with clearMode := .readClears } : State).rstnLow = false ∧
      ({ base with clearMode := .readClears } : State).clearMode = .readClears) := by decide

/-- The watermarks 1 and 32, and 0 and 33 beside them; a staging register, and an address that takes no write. -/
theorem witness_PlainRegistersAreWritten :
    base.rstnLow = false ∧
    ((0x0001 : Word).extractLsb' 0 6).toNat = 1 ∧ ((0x0020 : Word).extractLsb' 0 6).toNat = 32 ∧
    ((0x0000 : Word).extractLsb' 0 6).toNat = 0 ∧ ((0x0021 : Word).extractLsb' 0 6).toNat = 33 ∧
    (∀ addr ∈ ([0x11, 0x3F] : List (BitVec 6)),
      addr ∉ ([0x02, 0x09, 0x0A, 0x0B, 0x0C, 0x0D, 0x34, 0x35] : List (BitVec 6))) ∧
    stagedBits 0x11 ≠ 0 ∧ stagedBits 0x3F = 0 := by decide

end Sys2Proof.Tests
end

section
/-! SUPPORT. The Target Table's single-entry commands (1.4, 1.5): how a CMD write ends in the statements' words, what
TGT_RELEASE and ACK_ALERT do, and what the ALERTING words show. -/

namespace Sys2Proof.Machine

/-! ### How a CMD write ends, in the statements' words -/

/-- A refusal of the command port is the refusal the statements speak of: the causes' bit REFUSED is bit 0. -/
theorem State.refuse_eq_refusal (s : State) (code arg : Byte) (r : ResultCode) :
    State.refuse { s with cmd := wordOf code arg } code r = s.refusal code arg r.code := rfl

/-- A command of a ready host that passes its checks, where its effect does not depend on the word in CMD. -/
theorem command_eq_done {code arg : Byte} {limit : Nat} {checks : State → List (Bool × ResultCode)}
    {effect : State → State} {s t : State} (hs : HostReady s) (ha : arg.toNat < limit)
    (hc : firstFailing (checks s) = none)
    (he : effect { s with cmd := wordOf code arg } = { t with cmd := wordOf code arg }) :
    command code arg limit checks effect s = t.done code arg := by
  obtain ⟨hrst, hload⟩ := hs
  rw [command_done hrst hload ha hc, he]
  rfl

/-- A command of a ready host is refused with the code of its first failing check. -/
theorem command_eq_refusal {code arg : Byte} {limit : Nat} {checks : State → List (Bool × ResultCode)}
    {effect : State → State} {s : State} {r : ResultCode} (hs : HostReady s) (ha : arg.toNat < limit)
    (hc : firstFailing (checks s) = some r) :
    command code arg limit checks effect s = s.refusal code arg r.code := by
  obtain ⟨hrst, hload⟩ := hs
  rw [command_refused hrst hload ha hc, State.refuse_eq_refusal]

@[simp] theorem firstFailing_nil : firstFailing [] = none := rfl

@[simp] theorem firstFailing_cons (b : Bool) (r : ResultCode) (checks : List (Bool × ResultCode)) :
    firstFailing ((b, r) :: checks) = if b then some r else firstFailing checks := by
  cases b <;> rfl

/-! ### TGT_RELEASE and ACK_ALERT (R18) -/

/-- TGT_RELEASE of a VACANT entry is refused with BAD_TARGET. -/
theorem exec_tgtRelease_vacant {arg : Byte} {s : State} (hs : HostReady s) (ha : arg.toNat < 32)
    (hv : (s.target (idx32 arg.toNat)).state = .vacant) :
    exec (.tgtRelease arg) s = .next (s.refusal 0x13 arg ResultCode.badTarget.code) :=
  congrArg _ (command_eq_refusal hs ha (by simp [hv]))

/-- TGT_RELEASE of any other entry releases that entry alone. -/
theorem exec_tgtRelease_nonvacant {arg : Byte} {s : State} (hs : HostReady s) (ha : arg.toNat < 32)
    (hv : (s.target (idx32 arg.toNat)).state ≠ .vacant) :
    exec (.tgtRelease arg) s =
      .next ((s.setTarget (idx32 arg.toNat) (s.target (idx32 arg.toNat)).released).done 0x13 arg) :=
  congrArg _ (command_eq_done hs ha (by simp [hv]) rfl)

/-- ACK_ALERT has no check of its own and clears the flag of its entry alone. -/
theorem exec_ackAlert {arg : Byte} {s : State} (hs : HostReady s) (ha : arg.toNat < 32) :
    exec (.ackAlert arg) s =
      .next ((s.setTarget (idx32 arg.toNat) { s.target (idx32 arg.toNat) with alerting := false }).done 0x14 arg) :=
  congrArg _ (command_eq_done hs ha firstFailing_nil rfl)

/-! ### The ALERTING words (1.4, Table 12-1) -/

@[simp] theorem window_alertingLo (s : State) : window s 0x38 = alertingWord s 0 := rfl

@[simp] theorem window_alertingHi (s : State) : window s 0x39 = alertingWord s 16 := rfl

/-- The entry whose flag an ALERTING word shows at bit `k`. -/
theorem alertingWord_getLsbD {s : State} {base k : Nat} (hk : k < 16) :
    (alertingWord s base).getLsbD k = (s.target (idx32 (base + k))).alerting := by
  rw [alertingWord, bitsOf_getLsbD, decide_eq_true hk, Bool.true_and]

theorem idx32_val (i : Fin 32) : idx32 i.val = i := Fin.ofNat_val_eq_self i

/-- The flag of entry `i` stands at bit `i` of ALERTING_LO, or at bit `i - 16` of ALERTING_HI. -/
theorem alerting_eq_window (s : State) (i : Fin 32) :
    (s.target i).alerting =
      if i.val < 16 then (window s 0x38).getLsbD i.val else (window s 0x39).getLsbD (i.val - 16) := by
  split
  case isTrue hlo => rw [window_alertingLo, alertingWord_getLsbD hlo, Nat.zero_add, idx32_val]
  case isFalse hhi =>
    have hbit : i.val - 16 < 16 := by omega
    have hentry : 16 + (i.val - 16) = i.val := by omega
    rw [window_alertingHi, alertingWord_getLsbD hbit, hentry, idx32_val]

/-- Settles O30: each command by the one entry it stores, and the words by the entry each bit shows. -/
theorem tgtReleaseAndAckAlertActOnOneEntry : Obligations.TgtReleaseAndAckAlertActOnOneEntry := by
  unfold Obligations.TgtReleaseAndAckAlertActOnOneEntry
  refine ⟨alerting_eq_window, fun arg s hs ha => ⟨?release_vacant, ?release_nonvacant, ?ack⟩⟩
  case release_vacant => exact exec_tgtRelease_vacant hs ha
  case release_nonvacant => exact exec_tgtRelease_nonvacant hs ha
  case ack => exact exec_ackAlert hs ha

end Sys2Proof.Machine
end

section
/-! SUPPORT. The completion ring's window (3.3, Table 12-8): what CE0..CE4 show of the ring, where the image of an entry
holds its fields, and what POP does. -/

namespace Sys2Proof.Machine

/-! ### Fields of a concatenation -/

/-- A field that stands over the low field of a concatenation is read back at the low field's width. -/
theorem extractLsb'_middle {u v w : Nat} (x : BitVec u) (y : BitVec v) (z : BitVec w) :
    (x ++ y ++ z).extractLsb' w v = y := by
  rw [BitVec.extractLsb'_append_eq_of_le (Nat.le_refl w), Nat.sub_self, BitVec.extractLsb'_append_eq_right]

/-- A bit above the low field of a concatenation is a bit of what stands over that field. -/
theorem getLsbD_append_of_le {v w n : Nat} {x : BitVec v} {y : BitVec w} (h : w ≤ n) :
    (x ++ y).getLsbD n = x.getLsbD (n - w) := by
  rw [BitVec.getLsbD_append, if_neg (Nat.not_lt.2 h)]

/-- A flag that stands over the low field of a concatenation is the bit at the low field's width. -/
theorem getLsbD_flag {v w : Nat} (x : BitVec v) (b : Bool) (z : BitVec w) : (x ++ BitVec.ofBool b ++ z).getLsbD w = b := by
  rw [getLsbD_append_of_le (Nat.le_refl w), Nat.sub_self, BitVec.getLsbD_append]
  simp

/-- A number that fits its field is read back from it. -/
theorem ofNat_toNat_of_lt {w n : Nat} (h : n < 2 ^ w) : (BitVec.ofNat w n).toNat = n := by
  rw [BitVec.toNat_ofNat, Nat.mod_eq_of_lt h]

/-! ### The words of an entry's image and their fields (Table 12-8, R55, R195) -/

theorem Kind.code_toNat (k : Kind) : k.code.toNat = k.number := by cases k <;> rfl

theorem TxOutcome.code_toNat (o : TxOutcome) : o.code.toNat = o.number := by cases o <;> rfl

/-- CE0 of an image: the tag over the kind's code over the target. -/
theorem completionImage_ce0 (c : Completion) :
    let w := (completionImage c).get 0
    w.extractLsb' 8 8 = c.tag ∧ w.extractLsb' 5 3 = c.kind.code ∧ w.extractLsb' 0 5 = BitVec.ofNat 5 c.target.val :=
  ⟨(BitVec.extractLsb'_append_eq_of_le (by decide)).trans BitVec.extractLsb'_append_eq_left,
    extractLsb'_middle c.tag c.kind.code _, BitVec.extractLsb'_append_eq_right⟩

/-- CE1 of an image: the valid bit, the outcome's code and the attempt count; its unused bits read 0. -/
theorem completionImage_ce1 (c : Completion) :
    let w := (completionImage c).get 1
    w.getLsbD 15 = true ∧ w.extractLsb' 8 4 = c.outcome.code ∧ w.extractLsb' 4 4 = BitVec.ofNat 4 c.attempts ∧
      w &&& 0x700F = 0 := by
  refine ⟨?valid, ?outcome, extractLsb'_middle _ (BitVec.ofNat 4 c.attempts) 0#4, ?unused⟩
  case valid =>
    show (1#1 ++ 0#3 ++ c.outcome.code ++ BitVec.ofNat 4 c.attempts ++ 0#4).getLsbD 15 = true
    iterate 3 rw [getLsbD_append_of_le (by decide)]
    rfl
  case outcome =>
    exact (BitVec.extractLsb'_append_eq_of_le (by decide)).trans
      (extractLsb'_middle _ c.outcome.code (BitVec.ofNat 4 c.attempts))
  case unused =>
    show (1#1 ++ 0#3 ++ c.outcome.code ++ BitVec.ofNat 4 c.attempts ++ 0#4) &&& (0#1 ++ 7#3 ++ 0#4 ++ 0#4 ++ 15#4) = 0
    simp only [BitVec.and_append, BitVec.and_zero]
    rfl

/-- CE2 of an image: the write count over the read count. -/
theorem completionImage_ce2 (c : Completion) :
    let w := (completionImage c).get 2
    w.extractLsb' 8 8 = BitVec.ofNat 8 c.writeCount ∧ w.extractLsb' 0 8 = BitVec.ofNat 8 c.readCount :=
  ⟨BitVec.extractLsb'_append_eq_left, BitVec.extractLsb'_append_eq_right⟩

/-- CE3 of an image: whether the entry has a page, its notify, and the page, 0 where it has none; its unused bits read 0. -/
theorem completionImage_ce3 (c : Completion) :
    let w := (completionImage c).get 3
    w.getLsbD 7 = c.page.isSome ∧ w.getLsbD 6 = c.notify ∧ w &&& 0xFF20 = 0 ∧
      w.extractLsb' 0 5 = BitVec.ofNat 5 (c.page.getD 0).val := by
  refine ⟨?present, ?notify, ?unused, BitVec.extractLsb'_append_eq_right⟩
  case present =>
    exact (getLsbD_append_of_le (by decide)).trans
      ((getLsbD_append_of_le (by decide)).trans (getLsbD_flag 0#8 c.page.isSome (BitVec.ofBool c.notify)))
  case notify => exact (getLsbD_append_of_le (by decide)).trans (getLsbD_flag _ c.notify 0#1)
  case unused =>
    show (0#8 ++ BitVec.ofBool c.page.isSome ++ BitVec.ofBool c.notify ++ 0#1 ++ BitVec.ofNat 5 (c.page.getD 0).val) &&&
      (255#8 ++ 0#1 ++ 0#1 ++ 1#1 ++ 0#5) = 0
    simp only [BitVec.and_append, BitVec.and_zero, BitVec.zero_and]
    rfl

/-! ### CE0..CE4 in the register window (R55) -/

/-- The five words from 18H on are the image the ring shows. -/
theorem window_ce (s : State) : ∀ n : Fin 5, window s (0x18#6 + BitVec.ofNat 6 n.val) = (ceImage s.ring).get n
  | 0 | 1 | 2 | 3 | 4 => rfl

theorem ceImage_get (ring : List Completion) (n : Fin 5) :
    (ceImage ring).get n =
      match ring with
      | oldest :: _ => (completionImage oldest).get n
      | [] => 0x0000 := by
  cases ring with
  | cons oldest rest => rfl
  | nil => exact Vector.getElem_replicate ..

/-! ### POP (R53) -/

theorem exec_pop_loading {arg : Byte} {s : State} (hrst : s.rstnLow = false) (hl : s.loader.state = .loading) :
    exec (.pop arg) s = .next (s.refusal 0x02 arg ResultCode.loading.code) :=
  congrArg _ (command_loading hrst hl)

theorem exec_pop_empty {arg : Byte} {s : State} (hs : HostReady s) (hring : s.ring = []) :
    exec (.pop arg) s = .next (s.refusal 0x02 arg ResultCode.ringEmpty.code) :=
  congrArg _ (command_eq_refusal hs arg.isLt (by simp [hring]))

/-- POP of a ring with an oldest entry leaves the rest of the ring and changes nothing else. -/
theorem exec_pop_cons {arg : Byte} {s : State} {e : Completion} {rest : List Completion} (hs : HostReady s)
    (hring : s.ring = e :: rest) : exec (.pop arg) s = .next ({ s with ring := rest }.done 0x02 arg) :=
  congrArg _ (command_eq_done hs arg.isLt (by simp [hring]) (by simp [hring]))

/-- The oldest entry counts in the notify count where its notify is yes (R48). -/
theorem notifyCount_cons (e : Completion) (rest : List Completion) :
    notifyCount (e :: rest) = notifyCount rest + (if e.notify = true then 1 else 0) := List.countP_cons

/-- Settles O20: the image word by word, CE0..CE4 by the head of the ring, and POP by the load and the ring it finds. -/
theorem popTakesTheOldestEntry : Obligations.PopTakesTheOldestEntry := by
  unfold Obligations.PopTakesTheOldestEntry
  refine ⟨fun e hattempts hwrites hreads => ⟨?ce0, ?ce1, ?ce2, ?ce3, rfl⟩,
    fun s n => (window_ce s n).trans (ceImage_get s.ring n),
    fun arg s hrst => ⟨exec_pop_loading hrst, fun hl => ⟨exec_pop_empty ⟨hrst, hl⟩, fun e rest hring => ?pop⟩⟩⟩
  case ce0 =>
    obtain ⟨htag, hkind, htarget⟩ := completionImage_ce0 e
    exact ⟨htag, by rw [hkind, Kind.code_toNat], by rw [htarget, ofNat_toNat_of_lt e.target.isLt]⟩
  case ce1 =>
    obtain ⟨hvalid, houtcome, hcount, hunused⟩ := completionImage_ce1 e
    exact ⟨hvalid, by rw [houtcome, TxOutcome.code_toNat], by rw [hcount, ofNat_toNat_of_lt (by omega)], hunused⟩
  case ce2 =>
    obtain ⟨hwcount, hrcount⟩ := completionImage_ce2 e
    exact ⟨by rw [hwcount, ofNat_toNat_of_lt (by omega)], by rw [hrcount, ofNat_toNat_of_lt (by omega)]⟩
  case ce3 =>
    obtain ⟨hpresent, hnotify, hunused, hpage⟩ := completionImage_ce3 e
    refine ⟨hpresent, hnotify, hunused, fun p hp => ?_, fun hp => ?_⟩
    · rw [hpage, hp, ofNat_toNat_of_lt (Fin.isLt _), Option.getD_some]
    · rw [hpage, hp]; rfl
  case pop =>
    refine ⟨_, exec_pop_cons ⟨hrst, hl⟩ hring, rfl, ?count, fun n => (window_ce _ n).trans (ceImage_get rest n)⟩
    rw [hring, notifyCount_cons]
    rfl

end Sys2Proof.Machine
end

section
/-! SUPPORT. The host's port to the page buffer (4.4 to 4.6, Table 12-9): what PAGEPTR, PAGEDATA and PAGELENT show, and what
an access to PAGEPTR or PAGEDATA does. -/

namespace Sys2Proof.Machine

/-! ### Words of 32 flags -/

/-- Of 32 flags shown in two words, flag `i` stands at bit `i` of the low one or at bit `i - 16` of the high one. -/
theorem flag_eq_bitsOf_halves (f : Fin 32 → Bool) (i : Fin 32) :
    f i = if i.val < 16 then (bitsOf (fun n => f (idx32 (0 + n))) 16).getLsbD i.val
      else (bitsOf (fun n => f (idx32 (16 + n))) 16).getLsbD (i.val - 16) := by
  split
  case isTrue hlo => rw [bitsOf_getLsbD, decide_eq_true hlo, Bool.true_and, Nat.zero_add, idx32_val]
  case isFalse hhi =>
    have hbit : i.val - 16 < 16 := by omega
    have hflag : 16 + (i.val - 16) = i.val := by omega
    rw [bitsOf_getLsbD, decide_eq_true hbit, Bool.true_and, hflag, idx32_val]

/-! ### PAGEPTR, PAGEDATA and PAGELENT in the register window (R67, R70, R72) -/

@[simp] theorem window_pagePtr (s : State) : window s 0x34 = pagePtr s := rfl

@[simp] theorem window_pageData (s : State) : window s 0x35 = pageData s := rfl

@[simp] theorem window_pageLentLo (s : State) : window s 0x36 = pageLentWord s 0 := rfl

@[simp] theorem window_pageLentHi (s : State) : window s 0x37 = pageLentWord s 16 := rfl

theorem pagePtr_page (s : State) : (pagePtr s).extractLsb' 8 5 = s.ptrPage :=
  (BitVec.extractLsb'_append_eq_of_le (by decide)).trans (extractLsb'_middle 0#3 s.ptrPage 0#2)

theorem pagePtr_offset (s : State) : (pagePtr s).extractLsb' 0 6 = s.ptrOffset := BitVec.extractLsb'_append_eq_right

/-- The bits of PAGEPTR outside its two fields read 0. -/
theorem pagePtr_unused (s : State) : pagePtr s &&& 0xE0C0 = 0 := by
  show (0#3 ++ s.ptrPage ++ 0#2 ++ s.ptrOffset) &&& (7#3 ++ 0#5 ++ 3#2 ++ 0#6) = 0
  simp only [BitVec.and_append, BitVec.and_zero, BitVec.zero_and]
  rfl

theorem lent_of_holder_none {s : State} {p : Fin 32} (h : s.holders.get p = none) : lent s p = false := by
  rw [lent, h, Option.isSome_none]

/-- The pointer names a byte of the buffer: its offset never leaves its page. -/
theorem pageAddr_ptr (s : State) :
    pageAddr (ptrPageIdx s) s.ptrOffset.toNat = s.ptrPage.toNat * 64 + s.ptrOffset.toNat := by
  have hpage : (ptrPageIdx s).val = s.ptrPage.toNat := Nat.mod_eq_of_lt s.ptrPage.isLt
  rw [pageAddr, hpage, Nat.mod_eq_of_lt s.ptrOffset.isLt]

/-- PAGEDATA shows 0000H for a lent page and the byte at the pointer for a page of the host. -/
theorem pageData_eq (s : State) :
    pageData s = if lent s (ptrPageIdx s) then 0x0000
      else (s.mem.read (s.ptrPage.toNat * 64 + s.ptrOffset.toNat)).setWidth 16 := by
  rw [pageData, pageAddr_ptr]

/-- Page `p` is lent where bit `p` of PAGELENT_LO, or bit `p - 16` of PAGELENT_HI, is 1. -/
theorem lent_eq_window (s : State) (p : Fin 32) :
    lent s p = if p.val < 16 then (window s 0x36).getLsbD p.val else (window s 0x37).getLsbD (p.val - 16) := by
  rw [window_pageLentLo, window_pageLentHi]
  exact flag_eq_bitsOf_halves (lent s) p

/-! ### Accesses to PAGEPTR and PAGEDATA (R67 to R70) -/

theorem exec_pagePtrWrite {w : Word} {s : State} (hrst : s.rstnLow = false) :
    exec (.pagePtrWrite w) s = .next { s with ptrPage := w.extractLsb' 8 5, ptrOffset := w.extractLsb' 0 6 } :=
  congrArg _ (happen_some hrst _)

/-- A PAGEDATA read returns what PAGEDATA shows and advances the pointer; of a lent page it raises CONFLICT. -/
theorem exec_pageDataRead {s : State} (hrst : s.rstnLow = false) :
    exec .pageDataRead s =
      .next (if lent s (ptrPageIdx s) then ({ s with lastRead := pageData s }.advancePointer).raise .conflict
        else { s with lastRead := pageData s }.advancePointer) :=
  congrArg _ (happen_some hrst _)

/-- A PAGEDATA write stores a byte in a page of the host, or raises CONFLICT, and advances the pointer. -/
theorem exec_pageDataWrite {w : Word} {s : State} (hrst : s.rstnLow = false) :
    exec (.pageDataWrite w) s =
      .next (if lent s (ptrPageIdx s) then s.advancePointer.raise .conflict
        else { s with
          mem := s.mem.write (pageAddr (ptrPageIdx s) s.ptrOffset.toNat) (loByte w) }.advancePointer) :=
  congrArg _ (happen_some hrst _)

/-- A PAGEDATA read of a page of the host returns the byte at the pointer. -/
theorem exec_pageDataRead_host {s : State} (hrst : s.rstnLow = false) (hfree : lent s (ptrPageIdx s) = false) :
    exec .pageDataRead s = .next { s.advancePointer with
      lastRead := (s.mem.read (s.ptrPage.toNat * 64 + s.ptrOffset.toNat)).setWidth 16 } := by
  rw [exec_pageDataRead hrst, pageData_eq, hfree]
  rfl

/-- A PAGEDATA read of a lent page returns 0000H and raises CONFLICT. -/
theorem exec_pageDataRead_lent {s : State} (hrst : s.rstnLow = false) (hlent : lent s (ptrPageIdx s) = true) :
    exec .pageDataRead s = .next { s.advancePointer with lastRead := 0, latched := s.latched ||| 0x0004 } := by
  rw [exec_pageDataRead hrst, pageData_eq, hlent]
  rfl

/-- A PAGEDATA write to a page of the host stores the word's low byte at the pointer and no other byte. -/
theorem exec_pageDataWrite_host (w : Word) {s : State} (hrst : s.rstnLow = false) (hfree : lent s (ptrPageIdx s) = false) :
    exec (.pageDataWrite w) s = .next { s.advancePointer with
      mem := s.mem.write (s.ptrPage.toNat * 64 + s.ptrOffset.toNat) (w.setWidth 8) } := by
  rw [exec_pageDataWrite hrst, pageAddr_ptr, hfree]
  rfl

/-- A PAGEDATA write to a lent page is discarded and raises CONFLICT. -/
theorem exec_pageDataWrite_lent (w : Word) {s : State} (hrst : s.rstnLow = false) (hlent : lent s (ptrPageIdx s) = true) :
    exec (.pageDataWrite w) s = .next { s.advancePointer with latched := s.latched ||| 0x0004 } := by
  rw [exec_pageDataWrite hrst, hlent]
  rfl

/-- Settles O57: the three words by what they show, and each access by whose page the pointer names. -/
theorem pagePortReadsAndStores : Obligations.PagePortReadsAndStores := by
  unfold Obligations.PagePortReadsAndStores
  refine ⟨fun s => ?shown,
    fun w s hrst hmem => ⟨exec_pagePtrWrite hrst, fun hnone => ?host, fun hlent => ?lent⟩⟩
  case shown =>
    rw [window_pagePtr, window_pageData]
    exact ⟨pagePtr_page s, pagePtr_offset s, pagePtr_unused s, pageData_eq s, lent_eq_window s⟩
  case host =>
    have hfree : lent s (ptrPageIdx s) = false := lent_of_holder_none hnone
    exact ⟨exec_pageDataRead_host hrst hfree, _, exec_pageDataWrite_host w hrst hfree, rfl, Memory.read_write hmem⟩
  case lent => exact ⟨exec_pageDataRead_lent hrst hlent, exec_pageDataWrite_lent w hrst hlent⟩

end Sys2Proof.Machine
end

section
/-! SUPPORT. The segment commands (chapters 6 and 7): how a command that names a segment ends, what each does to the segment
it names, and what SEGSTAT_x shows. -/

namespace Sys2Proof.Machine

/-! ### The segment a command names (Table 12-2) -/

@[simp] theorem segOf_segArg (x : Seg) : segOf (segArg x) = x := by cases x <;> rfl

theorem segArg_lt (x : Seg) : (segArg x).toNat < 2 := by cases x <;> decide

/-! ### The word in CMD beside the segments -/

@[simp] theorem State.seg_withCmd (s : State) (w : Word) (x : Seg) : State.seg { s with cmd := w } x = s.seg x := by
  cases x <;> rfl

theorem State.updSeg_withCmd (s : State) (w : Word) (x : Seg) (f : Segment → Segment) :
    State.updSeg { s with cmd := w } x f = { s.updSeg x f with cmd := w } := by cases x <;> rfl

/-- A command of a ready host that passes its checks, where its effect keeps the word it finds in CMD. -/
theorem command_eq_done_of_cmd {code arg : Byte} {limit : Nat} {checks : State → List (Bool × ResultCode)}
    {effect : State → State} {s t : State} (hs : HostReady s) (ha : arg.toNat < limit)
    (hc : firstFailing (checks s) = none) (he : effect { s with cmd := wordOf code arg } = t)
    (hcmd : t.cmd = wordOf code arg) : command code arg limit checks effect s = t.done code arg :=
  command_eq_done hs ha hc (by rw [he, ← hcmd])

/-- A command of a ready host that passes its checks and changes the segment it names alone. -/
theorem segCommand_eq_done {code : Byte} {checks : State → List (Bool × ResultCode)} {f : Segment → Segment} {x : Seg}
    {s : State} (hs : HostReady s) (hc : firstFailing (checks s) = none) :
    command code (segArg x) 2 checks (fun t => t.updSeg (segOf (segArg x)) f) s =
      (s.setSeg x (f (s.seg x))).done code (segArg x) :=
  command_eq_done hs (segArg_lt x) hc (by rw [segOf_segArg, State.updSeg_withCmd, State.updSeg_eq])

/-! ### PAUSE and RESUME (R111, R112, Table 6-4) -/

theorem SegState.pause_eq (st : SegState) :
    st.pause = if st = .ready then .paused else if st = .busy then .pausingTxn
      else if st = .recovery then .pausingRec else st := by cases st <;> rfl

theorem SegState.resume_eq (st : SegState) :
    st.resume = if st = .paused then .ready else if st = .pausingTxn then .busy
      else if st = .pausingRec then .recovery else st := by cases st <;> rfl

theorem exec_pause_halted {x : Seg} {s : State} (hs : HostReady s) (h : (s.seg x).state = .halted) :
    exec (.pause (segArg x)) s = .next (s.refusal 0x04 (segArg x) ResultCode.segmentHalted.code) :=
  congrArg _ (command_eq_refusal hs (segArg_lt x) (by simp [h]))

theorem exec_pause_disabled {x : Seg} {s : State} (hs : HostReady s) (h : (s.seg x).state = .disabled) :
    exec (.pause (segArg x)) s = .next (s.refusal 0x04 (segArg x) ResultCode.segmentDisabled.code) :=
  congrArg _ (command_eq_refusal hs (segArg_lt x) (by simp [h]))

theorem exec_pause {x : Seg} {s : State} (hs : HostReady s) (hh : (s.seg x).state ≠ .halted)
    (hd : (s.seg x).state ≠ .disabled) :
    exec (.pause (segArg x)) s =
      .next ((s.setSeg x { s.seg x with state := (s.seg x).state.pause }).done 0x04 (segArg x)) :=
  congrArg _ (segCommand_eq_done hs (by simp [hh, hd]))

theorem exec_resume {x : Seg} {s : State} (hs : HostReady s) :
    exec (.resume (segArg x)) s =
      .next ((s.setSeg x { s.seg x with state := (s.seg x).state.resume }).done 0x05 (segArg x)) :=
  congrArg _ (segCommand_eq_done hs firstFailing_nil)

/-- Settles O24: PAUSE by the two states that refuse it, and both commands by the state they leave. -/
theorem pauseAndResumeMoveTheSegmentState : Obligations.PauseAndResumeMoveTheSegmentState := by
  unfold Obligations.PauseAndResumeMoveTheSegmentState
  refine fun x s hs => ⟨exec_pause_halted hs, exec_pause_disabled hs, fun hh hd => ?pause, ?resume⟩
  case pause => rw [← SegState.pause_eq]; exact exec_pause hs hh hd
  case resume => rw [← SegState.resume_eq]; exact exec_resume hs

/-! ### SEG_READ and SEGSTAT_x (R106, R196, Table 12-9) -/

theorem exec_segRead {x : Seg} {s : State} (hs : HostReady s) :
    exec (.segRead (segArg x)) s = .next ({ s with ss := segImage (s.seg x).cfg }.done 0x09 (segArg x)) :=
  congrArg _ (command_eq_done hs (segArg_lt x) firstFailing_nil (by rw [segOf_segArg, State.seg_withCmd]))

theorem SegState.code_toNat (st : SegState) : st.code.toNat = st.number := by cases st <;> rfl

theorem ResState.code_toNat (st : ResState) : st.code.toNat = st.number := by cases st <;> rfl

theorem window_segStat (s : State) (x : Seg) : window s (if x = Seg.a then 0x0E else 0x0F) = segStat (s.seg x) := by
  cases x <;> rfl

theorem segStat_state (g : Segment) : (segStat g).extractLsb' 12 4 = g.state.code :=
  (BitVec.extractLsb'_append_eq_of_le (by decide)).trans
    ((BitVec.extractLsb'_append_eq_of_le (by decide)).trans BitVec.extractLsb'_append_eq_left)

theorem segStat_resolver (g : Segment) : (segStat g).extractLsb' 10 2 = g.resolver.state.code :=
  (BitVec.extractLsb'_append_eq_of_le (by decide)).trans
    (extractLsb'_middle g.state.code g.resolver.state.code (BitVec.ofNat 5 g.queue.length))

theorem segStat_count (g : Segment) : (segStat g).extractLsb' 5 5 = BitVec.ofNat 5 g.queue.length :=
  extractLsb'_middle (g.state.code ++ g.resolver.state.code) (BitVec.ofNat 5 g.queue.length) 0#5

/-- The bits of SEGSTAT_x outside its three fields read 0. -/
theorem segStat_unused (g : Segment) : segStat g &&& 0x001F = 0 := by
  show (g.state.code ++ g.resolver.state.code ++ BitVec.ofNat 5 g.queue.length ++ 0#5) &&&
    (0#4 ++ 0#2 ++ 0#5 ++ 31#5) = 0
  simp only [BitVec.and_append, BitVec.and_zero, BitVec.zero_and]
  rfl

/-- Settles O27: SEG_READ by the image it copies, and SEGSTAT_x field by field. -/
theorem segReadCopiesTheConfiguration : Obligations.SegReadCopiesTheConfiguration := by
  unfold Obligations.SegReadCopiesTheConfiguration
  intro x s hs
  rw [window_segStat]
  refine ⟨exec_segRead hs, ?state, ?resolver, fun hlen => ?count, segStat_unused _⟩
  case state => rw [segStat_state, SegState.code_toNat]
  case resolver => rw [segStat_resolver, ResState.code_toNat]
  case count => rw [segStat_count, ofNat_toNat_of_lt (by omega)]

/-! ### Watching the line (R159, R167) -/

/-- A resolver that does not watch does not look at its line. -/
theorem lookAtLine_of_not_watching {x : Seg} {s : State} (h : (s.seg x).watching = false) : lookAtLine x s = s := by
  simp [lookAtLine, h]

theorem lookAtLine_cmd (x : Seg) (s : State) : (lookAtLine x s).cmd = s.cmd := by
  obtain ⟨r, l, h⟩ := lookAtLine_shape x s
  rw [h]
  exact State.setSeg_cmd ..

/-- The resolver that stops watching, in the statements' words. -/
theorem Segment.stopWatching_eq_unwatched (g : Segment) : g.stopWatching = g.unwatched := by
  have hreport : TableReport.unawaited = fun r : TableReport =>
      match r.body with
      | .alertOutcome o v _ => { r with body := .alertOutcome o v false }
      | .presence => r
      | .outcome _ => r := by
    funext r
    unfold TableReport.unawaited
    cases r.body <;> rfl
  rw [Segment.stopWatching, hreport]
  rfl

/-! ### SEG_ENABLE and SEG_DISABLE (R109, R110) -/

theorem segEnable_of_disabled {x : Seg} {s : State} (h : (s.seg x).state = .disabled) :
    segEnable x s = lookAtLine x (reschedulePolls (s.setSeg x { s.seg x with state := .ready, streak := 0 }) x) := by
  rw [segEnable, if_pos h, State.updSeg_eq]

theorem segEnable_of_enabled {x : Seg} {s : State} (h : (s.seg x).state ≠ .disabled) : segEnable x s = s := by
  rw [segEnable, if_neg h]

/-- The polls of a segment are timed afresh by the targets' segments alone, whatever the segments hold. -/
theorem reschedulePolls_setSeg (s : State) (x y : Seg) (g : Segment) :
    reschedulePolls (s.setSeg y g) x = { s.setSeg y g with
      polls := vmap (fun p =>
        if p.enabled = true ∧ (s.target p.cfg.target).cfg.segment = x then
          { p with nextDue := s.tick + p.cfg.phase.setWidth 32, owed := .nothing }
        else p) s.polls } := by
  have htarget (i : Fin 32) : (s.setSeg y g).target i = s.target i := by
    rw [State.target, State.setSeg_targets, State.target]
  simp [reschedulePolls, pollSeg, htarget, Poll.reschedule, span]

theorem exec_segEnable_enabled {x : Seg} {s : State} (hs : HostReady s) (h : (s.seg x).state ≠ .disabled) :
    exec (.segEnable (segArg x)) s = .next (s.done 0x06 (segArg x)) :=
  congrArg _ (command_eq_done hs (segArg_lt x) firstFailing_nil
    (by rw [segOf_segArg, segEnable_of_enabled (by rwa [State.seg_withCmd])]))

theorem exec_segEnable_disabled {x : Seg} {s : State} (hs : HostReady s) (h : (s.seg x).state = .disabled) :
    exec (.segEnable (segArg x)) s = .next ((lookAtLine x
      { s.setSeg x { s.seg x with state := .ready, streak := 0 } with
        cmd := wordOf 0x06 (segArg x)
        polls := vmap (fun p =>
          if p.enabled = true ∧ (s.target p.cfg.target).cfg.segment = x then
            { p with nextDue := s.tick + p.cfg.phase.setWidth 32, owed := .nothing }
          else p) s.polls }).done 0x06 (segArg x)) := by
  refine congrArg _ (command_eq_done_of_cmd hs (segArg_lt x) firstFailing_nil ?effect (lookAtLine_cmd ..))
  rw [segOf_segArg, segEnable_of_disabled (by rwa [State.seg_withCmd]), reschedulePolls_setSeg]
  cases x <;> rfl

/-- SEG_DISABLE is refused while the segment has work under way or holds a descriptor. -/
theorem Segment.refusesDisable_iff (g : Segment) :
    g.refusesDisable = true ↔
      g.state ≠ .disabled ∧ (¬ (g.state = .ready ∨ g.state = .paused ∨ g.state = .halted) ∨ g.queue ≠ []) := by
  unfold Segment.refusesDisable
  cases g.state <;> simp [List.length_pos_iff]

theorem segDisable_of_enabled {x : Seg} {s : State} (h : (s.seg x).state ≠ .disabled) :
    segDisable x s = s.updSeg x fun g => { g.unwatched with state := .disabled } := by
  simp only [segDisable, if_neg h, Segment.stopWatching_eq_unwatched]

theorem exec_segDisable_disabled {x : Seg} {s : State} (hs : HostReady s) (h : (s.seg x).state = .disabled) :
    exec (.segDisable (segArg x)) s = .next (s.done 0x07 (segArg x)) := by
  refine congrArg _ (command_eq_done hs (segArg_lt x) ?checks ?effect)
  case checks => simp [Segment.refusesDisable, h]
  case effect => rw [segOf_segArg, segDisable, if_pos (by rwa [State.seg_withCmd])]

theorem exec_segDisable_busy {x : Seg} {s : State} (hs : HostReady s) (h : (s.seg x).refusesDisable = true) :
    exec (.segDisable (segArg x)) s = .next (s.refusal 0x07 (segArg x) ResultCode.segmentBusy.code) :=
  congrArg _ (command_eq_refusal hs (segArg_lt x) (by simp [h]))

theorem exec_segDisable_idle {x : Seg} {s : State} (hs : HostReady s) (hd : (s.seg x).state ≠ .disabled)
    (h : (s.seg x).refusesDisable = false) :
    exec (.segDisable (segArg x)) s =
      .next ((s.setSeg x { (s.seg x).unwatched with state := .disabled }).done 0x07 (segArg x)) := by
  refine congrArg _ (command_eq_done hs (segArg_lt x) (by simp [h]) ?effect)
  rw [segOf_segArg, segDisable_of_enabled (by rwa [State.seg_withCmd]), State.updSeg_withCmd, State.updSeg_eq]

/-- Settles O25: SEG_ENABLE by whether the segment is DISABLED, SEG_DISABLE by whether it is DISABLED or busy. -/
theorem segEnableAndSegDisable : Obligations.SegEnableAndSegDisable := by
  unfold Obligations.SegEnableAndSegDisable
  refine fun x s hs => ⟨exec_segEnable_enabled hs, exec_segEnable_disabled hs, exec_segDisable_disabled hs,
    fun hd hbusy => ?busy, fun hrest hqueue => ?idle⟩
  case busy => exact exec_segDisable_busy hs ((Segment.refusesDisable_iff _).2 ⟨hd, hbusy⟩)
  case idle =>
    have hd : (s.seg x).state ≠ .disabled := by rcases hrest with h | h | h <;> simp [h]
    have hfree : (s.seg x).refusesDisable = false := by
      rw [← Bool.not_eq_true, Segment.refusesDisable_iff]
      exact fun ⟨_, hbusy⟩ => hbusy.elim (absurd hrest) (absurd hqueue)
    exact exec_segDisable_idle hs hd hfree

/-! ### SEG_WRITE (R104, R105, R167) -/

/-- The six fields staged in SS0..SS2, legal or not (Table 12-7). -/
def stagedFields (ss : Vector Word 3) : SegConfig :=
  { busFree := (ss.get 0).extractLsb' 8 8, stretch := (ss.get 0).setWidth 8, retryGap := (ss.get 1).extractLsb' 12 4
    pollShare := (ss.get 1).extractLsb' 8 4, alertEnable := (ss.get 1).getLsbD 0, holdoff := (ss.get 2).setWidth 8 }

/-- The conditions of R104 on a segment configuration. -/
def SegConfig.Legal (c : SegConfig) : Prop :=
  c.busFree ≠ 0 ∧ c.stretch ≠ 0 ∧ 1 ≤ c.pollShare.toNat ∧ c.pollShare.toNat ≤ 8 ∧ c.holdoff ≠ 0

theorem setWidth_setWidth_nibble (b : BitVec 4) : (b.setWidth 8).setWidth 4 = b := by
  rw [BitVec.setWidth_setWidth_of_le _ (by decide), BitVec.setWidth_eq]

theorem toNat_setWidth_nibble (b : BitVec 4) : (b.setWidth 8).toNat = b.toNat := BitVec.toNat_setWidth_of_le (by decide)

/-- The staged set is taken exactly where its fields are legal; a retry gap of four bits is always in its range. -/
theorem stagedSeg_eq_some_iff {ss : Vector Word 3} {c : SegConfig} :
    stagedSeg ss = some c ↔ (stagedFields ss).Legal ∧ stagedFields ss = c := by
  have hgap : ((ss.get 1).extractLsb' 12 4).toNat ≤ 15 := Nat.le_of_lt_succ (BitVec.isLt _)
  have hlow (w : Word) : w.extractLsb' 0 8 = w.setWidth 8 := rfl
  simp only [stagedSeg, segConfig, Option.ite_none_right_eq_some, Option.some.injEq, Bool.and_eq_true, decide_eq_true_eq]
  simp only [field, toNat_setWidth_nibble, setWidth_setWidth_nibble, hlow, hgap, and_true, and_assoc, stagedFields,
    SegConfig.Legal]

theorem stagedSeg_of_legal {ss : Vector Word 3} (h : (stagedFields ss).Legal) : stagedSeg ss = some (stagedFields ss) :=
  stagedSeg_eq_some_iff.2 ⟨h, rfl⟩

theorem stagedSeg_of_not_legal {ss : Vector Word 3} (h : ¬ (stagedFields ss).Legal) : stagedSeg ss = none :=
  Option.eq_none_iff_forall_ne_some.2 fun _ hc => h (stagedSeg_eq_some_iff.1 hc).1

theorem Segment.watching_eq_false_iff {g : Segment} :
    g.watching = false ↔ g.cfg.alertEnable = false ∨ g.state = .disabled := by
  simp only [Segment.watching, Bool.and_eq_false_iff, decide_eq_false_iff_not, ne_eq, not_not]

theorem Segment.watching_iff {g : Segment} : g.watching = true ↔ g.cfg.alertEnable = true ∧ g.state ≠ .disabled := by
  simp [Segment.watching]

theorem Segment.configured_of_watching {g : Segment} {c : SegConfig} (h : { g with cfg := c }.watching = true) :
    g.configured c = { g with cfg := c } := by
  rw [Segment.configured, if_pos h]

theorem Segment.configured_of_not_watching {g : Segment} {c : SegConfig} (h : { g with cfg := c }.watching = false) :
    g.configured c = { g with cfg := c }.unwatched := by
  rw [Segment.configured, if_neg (by simp [h]), Segment.stopWatching_eq_unwatched]

/-- A resolver that goes on as it was after SEG_WRITE: it watched already, or does not watch with the new configuration. -/
theorem segWrite_of_not_begun {x : Seg} {s : State} {c : SegConfig} (hss : stagedSeg s.ss = some c)
    (h : (s.seg x).watching = true ∨ ((s.seg x).configured c).watching = false) :
    segWrite x s = s.setSeg x ((s.seg x).configured c) := by
  simp only [segWrite, hss, State.updSeg_eq]
  split
  case isTrue => rfl
  case isFalse hw => exact lookAtLine_of_not_watching (by simpa [hw] using h)

theorem segWrite_of_begun {x : Seg} {s : State} {c : SegConfig} (hss : stagedSeg s.ss = some c)
    (h : (s.seg x).watching = false) :
    segWrite x s = lookAtLine x (s.setSeg x ((s.seg x).configured c)) := by
  simp [segWrite, hss, State.updSeg_eq, h]

theorem exec_segWrite_notPaused {x : Seg} {s : State} (hs : HostReady s) (hd : (s.seg x).state ≠ .disabled)
    (hp : (s.seg x).state ≠ .paused) :
    exec (.segWrite (segArg x)) s = .next (s.refusal 0x08 (segArg x) ResultCode.notPaused.code) :=
  congrArg _ (command_eq_refusal hs (segArg_lt x) (by simp [segWriteChecks, hd, hp]))

theorem exec_segWrite_badField {x : Seg} {s : State} (hs : HostReady s)
    (hst : (s.seg x).state = .disabled ∨ (s.seg x).state = .paused) (hl : ¬ (stagedFields s.ss).Legal) :
    exec (.segWrite (segArg x)) s = .next (s.refusal 0x08 (segArg x) ResultCode.badField.code) := by
  refine congrArg _ (command_eq_refusal hs (segArg_lt x) ?checks)
  rcases hst with h | h <;> simp [segWriteChecks, h, stagedSeg_of_not_legal hl]

/-- SEG_WRITE of a legal set passes its checks on a DISABLED and on a PAUSED segment. -/
theorem segWriteChecks_pass {x : Seg} {s : State} (hst : (s.seg x).state = .disabled ∨ (s.seg x).state = .paused)
    (hl : (stagedFields s.ss).Legal) : firstFailing (segWriteChecks (segOf (segArg x)) s) = none := by
  rcases hst with h | h <;> simp [segWriteChecks, h, stagedSeg_of_legal hl]

theorem exec_segWrite_not_begun {x : Seg} {s : State} (hs : HostReady s)
    (hst : (s.seg x).state = .disabled ∨ (s.seg x).state = .paused) (hl : (stagedFields s.ss).Legal)
    (h : (s.seg x).watching = true ∨ ((s.seg x).configured (stagedFields s.ss)).watching = false) :
    exec (.segWrite (segArg x)) s =
      .next ((s.setSeg x ((s.seg x).configured (stagedFields s.ss))).done 0x08 (segArg x)) := by
  refine congrArg _ (command_eq_done hs (segArg_lt x) (segWriteChecks_pass hst hl) ?effect)
  rw [segOf_segArg, segWrite_of_not_begun (s := { s with cmd := wordOf 0x08 (segArg x) }) (stagedSeg_of_legal hl)
    (by rwa [State.seg_withCmd])]
  cases x <;> rfl

theorem exec_segWrite_begun {x : Seg} {s : State} (hs : HostReady s)
    (hst : (s.seg x).state = .disabled ∨ (s.seg x).state = .paused) (hl : (stagedFields s.ss).Legal)
    (h : (s.seg x).watching = false) :
    exec (.segWrite (segArg x)) s =
      .next ((lookAtLine x (State.setSeg { s with cmd := wordOf 0x08 (segArg x) } x
        ((s.seg x).configured (stagedFields s.ss)))).done 0x08 (segArg x)) := by
  refine congrArg _ (command_eq_done_of_cmd hs (segArg_lt x) (segWriteChecks_pass hst hl) ?effect ?cmd)
  case effect =>
    rw [segOf_segArg, segWrite_of_begun (s := { s with cmd := wordOf 0x08 (segArg x) }) (stagedSeg_of_legal hl)
      (by rwa [State.seg_withCmd]), State.seg_withCmd]
  case cmd => rw [lookAtLine_cmd, State.setSeg_cmd]

/-- Settles O26: the two checks, then a set taken by whether the resolver watches before and after it. -/
theorem segWriteStoresTheConfiguration : Obligations.SegWriteStoresTheConfiguration := by
  unfold Obligations.SegWriteStoresTheConfiguration
  refine fun x s hs => ⟨exec_segWrite_notPaused hs, fun hst =>
    ⟨exec_segWrite_badField hs hst, fun hl => ⟨fun hp ha hb => ?goes_on, fun hno => ?stops, fun hp ha hb => ?begins⟩⟩⟩
  case goes_on =>
    have hnew : { s.seg x with cfg := stagedFields s.ss }.watching = true :=
      Segment.watching_iff.2 ⟨hb, by simp [hp]⟩
    have hold : (s.seg x).watching = true := Segment.watching_iff.2 ⟨ha, by simp [hp]⟩
    rw [exec_segWrite_not_begun hs hst hl (.inl hold), Segment.configured_of_watching hnew]
    rfl
  case stops =>
    have hnew : { s.seg x with cfg := stagedFields s.ss }.watching = false := Segment.watching_eq_false_iff.2 hno
    have hstops : ((s.seg x).configured (stagedFields s.ss)).watching = false := by
      rw [Segment.configured_of_not_watching hnew]
      exact hnew
    rw [exec_segWrite_not_begun hs hst hl (.inr hstops), Segment.configured_of_not_watching hnew]
    rfl
  case begins =>
    have hnew : { s.seg x with cfg := stagedFields s.ss }.watching = true :=
      Segment.watching_iff.2 ⟨hb, by simp [hp]⟩
    have hold : (s.seg x).watching = false := Segment.watching_eq_false_iff.2 (.inl ha)
    rw [exec_segWrite_begun hs hst hl hold, Segment.configured_of_watching hnew]
    rfl

end Sys2Proof.Machine
end

section
/-! SUPPORT. The capture register of the Tick Timer (6.5, R121): the two halves of the tick, and that no command but a read of
TICK_LO and the power-on reset writes the register. -/

namespace Sys2Proof.Machine

/-! ### Shared operations leave the capture register -/

@[simp] theorem endSweep_capture (x : Seg) (s : State) : (endSweep x s).capture = s.capture := by
  obtain ⟨r, l, h⟩ := endSweep_shape x s
  rw [h]
  exact State.setSeg_capture ..

@[simp] theorem endSweeps_capture (s : State) : (endSweeps s).capture = s.capture := by
  rw [endSweeps, endSweep_capture, endSweep_capture]

@[simp] theorem beginSweep_capture (x : Seg) (s : State) : (beginSweep x s).capture = s.capture := by
  rw [beginSweep, endSweep_capture, State.updSeg_capture]

@[simp] theorem lookAtLine_capture (x : Seg) (s : State) : (lookAtLine x s).capture = s.capture := by
  obtain ⟨r, l, h⟩ := lookAtLine_shape x s
  rw [h]
  exact State.setSeg_capture ..

@[simp] theorem closeItem_capture (s : State) (x : Seg) (it : Item) (o : TxOutcome) :
    (closeItem s x it o).capture = s.capture := by
  unfold closeItem
  split <;> exact State.updSeg_capture ..

@[simp] theorem beginRecovery_capture (s : State) (x : Seg) : (beginRecovery s x).capture = s.capture := by
  rw [beginRecovery, State.raise_capture, State.updSeg_capture]

@[simp] theorem faultEnd_capture (s : State) (x : Seg) (it : Item) (o : TxOutcome) :
    (faultEnd s x it o).capture = s.capture := by
  unfold faultEnd
  dsimp only
  split <;> simp

@[simp] theorem failRecovery_capture (s : State) (x : Seg) : (failRecovery s x).capture = s.capture :=
  State.updSeg_capture ..

@[simp] theorem detach_capture (s : State) (i : Fin 32) : (detach s i).capture = s.capture := by
  rw [detach, State.updSeg_capture, State.updSeg_capture]

@[simp] theorem beginPiece_capture (s : State) : (beginPiece s).capture = s.capture := State.updSeg_capture ..

@[simp] theorem beginLoad_capture (s : State) : (beginLoad s).capture = s.capture := beginPiece_capture _

@[simp] theorem applyOutcome_capture (s : State) (i : Fin 32) (o : TxOutcome) :
    (applyOutcome s i o).capture = s.capture := by
  unfold applyOutcome
  dsimp only
  split <;> rfl

@[simp] theorem tellResolver_capture (s : State) (x : Seg) (awaited : Bool) (r : AlertResult) :
    (tellResolver s x awaited r).capture = s.capture := by
  unfold tellResolver
  split
  · exact State.updSeg_capture ..
  · rfl

@[simp] theorem takeWires_capture (seen : List (Seg × Wire)) (s : State) : (takeWires seen s).capture = s.capture := by
  refine takeWires_keeps (P := fun t => t.capture = s.capture) (fun x w t ht => ?_) seen s rfl
  rcases takeWire_cases x w t with h | ⟨g, -, h⟩
  · rw [h, ht]
  · rw [h, State.setSeg_capture, ht]

@[simp] theorem takeMillisecond_capture (s : State) : (takeMillisecond s).capture = s.capture := by
  rcases takeMillisecond_cases s with ⟨-, h⟩ | ⟨seen, rest, -, h⟩
  · rw [h]
  · rw [h, takeWires_capture]

@[simp] theorem takeBefore_capture (seen : List (Seg × Wire)) (s : State) : (takeBefore seen s).capture = s.capture := by
  unfold takeBefore
  split
  · rfl
  · exact takeWires_capture ..

/-- A command writes the capture register only where its effect does. -/
theorem command_capture {code arg : Byte} {limit : Nat} {checks : State → List (Bool × ResultCode)}
    {effect : State → State} {s : State} (he : ∀ t, (effect t).capture = t.capture) :
    (command code arg limit checks effect s).capture = s.capture := by
  rcases command_cases code arg limit checks effect s with ⟨-, h⟩ | ⟨r, -, h⟩ | ⟨-, -, -, -, h⟩
  · rw [h]
  · rw [h, State.refuse_capture]
  · rw [h, State.answer_capture, he]

/-- A happening writes the capture register only where what is taken does. -/
theorem happen_capture {s : State} {taken : Option State} (h : ∀ t ∈ taken, t.capture = s.capture) :
    (happen s taken).capture = s.capture := by
  rcases happen_cases s taken with hsame | ⟨t, -, ht, hsame⟩
  · rw [hsame]
  · rw [hsame, h t ht]

/-- A happening that is always taken writes the capture register only where its effect does. -/
theorem happen_some_capture {s t : State} (h : t.capture = s.capture) : (happen s (some t)).capture = s.capture :=
  happen_capture (by simpa using h)

/-! ### The effects of commands leave the capture register -/

@[simp] theorem abort_capture (x : Seg) (s : State) : (abort x s).capture = s.capture := by
  unfold abort cutItem
  repeat' split
  all_goals simp

@[simp] theorem segEnable_capture (x : Seg) (s : State) : (segEnable x s).capture = s.capture := by
  unfold segEnable
  split
  · rw [lookAtLine_capture]
    exact State.updSeg_capture ..
  · rfl

@[simp] theorem segDisable_capture (x : Seg) (s : State) : (segDisable x s).capture = s.capture := by
  unfold segDisable
  split
  · rfl
  · exact State.updSeg_capture ..

@[simp] theorem segWrite_capture (x : Seg) (s : State) : (segWrite x s).capture = s.capture := by
  unfold segWrite
  repeat' split
  all_goals simp

@[simp] theorem tgtWrite_capture (i : Fin 32) (s : State) : (tgtWrite i s).capture = s.capture := by
  unfold tgtWrite
  split <;> simp

@[simp] theorem tgtClear_capture (i : Fin 32) (s : State) : (tgtClear i s).capture = s.capture := by
  unfold tgtClear
  split <;> simp

@[simp] theorem pollWrite_capture (i : Fin 24) (s : State) : (pollWrite i s).capture = s.capture := by
  unfold pollWrite
  split <;> rfl

@[simp] theorem pollEnable_capture (i : Fin 24) (s : State) : (pollEnable i s).capture = s.capture := by
  unfold pollEnable
  dsimp only
  split <;> rfl

@[simp] theorem pollDisable_capture (i : Fin 24) (s : State) : (pollDisable i s).capture = s.capture := by
  unfold pollDisable
  dsimp only
  split <;> rfl

@[simp] theorem submit_capture (s : State) : (submit s).capture = s.capture := by
  simp [submit]

@[simp] theorem recover_capture (x : Seg) (s : State) : (recover x s).capture = s.capture := by
  rw [recover, beginRecovery_capture, State.updSeg_capture]

@[simp] theorem softReset_capture (s : State) : (softReset s).capture = s.capture := by
  rw [softReset, lookAtLine_capture, lookAtLine_capture]
  rfl

@[simp] theorem reload_capture (s : State) : (reload s).capture = s.capture := beginLoad_capture _

@[simp] theorem badCommand_capture (w : Word) (s : State) : (badCommand w s).capture = s.capture := by
  unfold badCommand
  split <;> rfl

@[simp] theorem writePlain_capture (s : State) (addr : BitVec 6) (w : Word) : (writePlain s addr w).capture = s.capture := by
  unfold writePlain
  dsimp only
  split <;> rfl

/-! ### What happenings take leaves the capture register -/

theorem alertLineChange_capture (x : Seg) (low : Bool) (s : State) : (alertLineChange x low s).capture = s.capture := by
  unfold alertLineChange
  dsimp only
  split <;> simp

theorem holdoffEnd_capture (x : Seg) (s : State) : ∀ t ∈ holdoffEnd x s, t.capture = s.capture := by
  unfold holdoffEnd
  dsimp only
  repeat' split
  all_goals simp

theorem alertResult_capture (x : Seg) (s : State) : ∀ t ∈ alertResult x s, t.capture = s.capture := by
  unfold alertResult
  dsimp only
  split <;> simp

theorem pollOverrun_capture (i : Fin 24) (s : State) : ∀ t ∈ pollOverrun i s, t.capture = s.capture := by
  unfold pollOverrun
  dsimp only
  split <;> simp

theorem quarantineMiss_capture (i : Fin 24) (s : State) : ∀ t ∈ quarantineMiss i s, t.capture = s.capture := by
  unfold quarantineMiss
  dsimp only
  split <;> simp

theorem pollReadReport_capture (x : Seg) (s : State) : ∀ t ∈ pollReadReport x s, t.capture = s.capture := by
  unfold pollReadReport
  split <;> simp

theorem grantDecision_capture (x : Seg) (s : State) : ∀ t ∈ grantDecision x s, t.capture = s.capture := by
  have hhead (d : Descriptor) : (grantHead s x d).capture = s.capture := by
    unfold grantHead
    dsimp only
    split <;> simp [startItem]
  unfold grantDecision
  repeat' split
  all_goals simp [grantAlert, grantPoll, startItem, hhead]

theorem busFreeTimeout_capture (x : Seg) (s : State) : ∀ t ∈ busFreeTimeout x s, t.capture = s.capture := by
  unfold busFreeTimeout
  repeat' split
  all_goals simp

theorem stretchTimeout_capture (x : Seg) (s : State) : ∀ t ∈ stretchTimeout x s, t.capture = s.capture := by
  unfold stretchTimeout
  repeat' split
  all_goals simp

theorem dataMismatch_capture (x : Seg) (s : State) : ∀ t ∈ dataMismatch x s, t.capture = s.capture := by
  intro t ht
  obtain ⟨it, -, rfl⟩ := Option.map_eq_some_iff.1 ht
  exact faultEnd_capture ..

theorem byteEnd_capture (x : Seg) (ack : Bool) (byte : Byte) (s : State) :
    ∀ t ∈ byteEnd x ack byte s, t.capture = s.capture := by
  unfold byteEnd
  repeat' split
  all_goals simp

theorem presenceReport_capture (x : Seg) (s : State) : ∀ t ∈ presenceReport x s, t.capture = s.capture := by
  unfold presenceReport
  dsimp only
  repeat' split
  all_goals simp

theorem pageStore_capture (x : Seg) (byte : Byte) (s : State) : ∀ t ∈ pageStore x byte s, t.capture = s.capture := by
  unfold pageStore
  repeat' split
  all_goals simp

theorem retryGapBegin_capture (x : Seg) (s : State) : ∀ t ∈ retryGapBegin x s, t.capture = s.capture := by
  intro t ht
  obtain ⟨it, -, rfl⟩ := Option.map_eq_some_iff.1 ht
  exact State.updSeg_capture ..

theorem retryGapEnd_capture (x : Seg) (s : State) : ∀ t ∈ retryGapEnd x s, t.capture = s.capture := by
  unfold retryGapEnd
  repeat' split
  all_goals simp

theorem transactionEnd_capture (x : Seg) (s : State) : ∀ t ∈ transactionEnd x s, t.capture = s.capture := by
  unfold transactionEnd
  split
  · intro t ht
    obtain ⟨o, -, rfl⟩ := Option.map_eq_some_iff.1 ht
    exact closeItem_capture ..
  · simp

theorem deadlineExpiry_capture (x : Seg) (pos : Nat) (s : State) : ∀ t ∈ deadlineExpiry x pos s, t.capture = s.capture := by
  unfold deadlineExpiry
  repeat' split
  all_goals simp

theorem headFinished_capture (x : Seg) (s : State) : ∀ t ∈ headFinished x s, t.capture = s.capture := by
  unfold headFinished
  dsimp only
  repeat' split
  all_goals simp

theorem outcomeReport_capture (x : Seg) (s : State) : ∀ t ∈ outcomeReport x s, t.capture = s.capture := by
  unfold outcomeReport
  dsimp only
  repeat' split
  all_goals simp

theorem retirement_capture (x : Seg) (s : State) : ∀ t ∈ retirement x s, t.capture = s.capture := by
  unfold retirement
  dsimp only
  repeat' split
  all_goals simp

theorem recoverySucceeded_capture (x : Seg) (samples : List Bool) (s : State) :
    ∀ t ∈ recoverySucceeded x samples s, t.capture = s.capture := by
  unfold recoverySucceeded
  repeat' split
  all_goals simp

theorem recoveryFailed_capture (x : Seg) (samples : List Bool) (s : State) :
    ∀ t ∈ recoveryFailed x samples s, t.capture = s.capture := by
  unfold recoveryFailed
  repeat' split
  all_goals simp

theorem recoveryHoldTimeout_capture (x : Seg) (s : State) : ∀ t ∈ recoveryHoldTimeout x s, t.capture = s.capture := by
  unfold recoveryHoldTimeout
  repeat' split
  all_goals simp

@[simp] theorem loadFail_capture (s : State) (reason : LoadReason) (l : Loader) :
    (loadFail s reason l).capture = s.capture := rfl

@[simp] theorem commit_capture (s : State) (l : Loader) : (commit s l).capture = s.capture := by
  have hevents (t : State) (e : Option EventSettings) : (commitEvents t e).capture = t.capture := by
    cases e <;> rfl
  simp [commit, hevents]

theorem loaderReadReport_capture (s : State) : ∀ t ∈ loaderReadReport s, t.capture = s.capture := by
  unfold loaderReadReport
  dsimp only
  repeat' split
  all_goals simp

/-! ### Every command but a read of TICK_LO and the power-on reset -/

theorem capture_of_next {r s u : State} (h : (Host.Outcome.next r : Result) = .next u) (hr : r.capture = s.capture) :
    u.capture = s.capture := by
  cases h
  exact hr

/-- The capture register is written by a read of TICK_LO and by the power-on reset alone (R121). -/
theorem exec_capture {c : Instr} {s u : State} (h : exec c s = .next u) (hlo : c ≠ .tickLoRead)
    (hreset : ∀ cfgen cfgadr fsel, c ≠ .powerOnReset cfgen cfgadr fsel) : u.capture = s.capture := by
  cases c with
  | submit arg => exact capture_of_next h (command_capture submit_capture)
  | pop arg => exact capture_of_next h (command_capture fun _ => rfl)
  | abort arg seen => exact capture_of_next h ((command_capture (abort_capture _)).trans (takeBefore_capture ..))
  | pause arg => exact capture_of_next h (command_capture fun _ => State.updSeg_capture ..)
  | resume arg => exact capture_of_next h (command_capture fun _ => State.updSeg_capture ..)
  | segEnable arg => exact capture_of_next h (command_capture (segEnable_capture _))
  | segDisable arg => exact capture_of_next h (command_capture (segDisable_capture _))
  | segWrite arg => exact capture_of_next h (command_capture (segWrite_capture _))
  | segRead arg => exact capture_of_next h (command_capture fun _ => rfl)
  | recover arg => exact capture_of_next h (command_capture (recover_capture _))
  | tgtWrite arg => exact capture_of_next h (command_capture (tgtWrite_capture _))
  | tgtRead arg => exact capture_of_next h (command_capture fun _ => rfl)
  | tgtClear arg => exact capture_of_next h (command_capture (tgtClear_capture _))
  | tgtRelease arg => exact capture_of_next h (command_capture fun _ => State.setTarget_capture ..)
  | ackAlert arg => exact capture_of_next h (command_capture fun _ => State.setTarget_capture ..)
  | pollWrite arg => exact capture_of_next h (command_capture (pollWrite_capture _))
  | pollRead arg => exact capture_of_next h (command_capture fun _ => rfl)
  | pollEnable arg => exact capture_of_next h (command_capture (pollEnable_capture _))
  | pollDisable arg => exact capture_of_next h (command_capture (pollDisable_capture _))
  | softReset arg => exact capture_of_next h (command_capture softReset_capture)
  | reload arg => exact capture_of_next h (command_capture reload_capture)
  | badCommand w =>
    simp only [exec, execBadCommand] at h
    split at h
    · exact capture_of_next h (badCommand_capture ..)
    · cases h
  | pagePtrWrite w => exact capture_of_next h (happen_some_capture rfl)
  | pageDataRead => exact capture_of_next h (happen_some_capture (by dsimp only; split <;> rfl))
  | pageDataWrite w => exact capture_of_next h (happen_some_capture (by split <;> rfl))
  | tickLoRead => exact absurd rfl hlo
  | eventRead => exact capture_of_next h (happen_some_capture (by dsimp only; split <;> rfl))
  | eventWrite w => exact capture_of_next h (happen_some_capture (by split <;> rfl))
  | evMaskWrite w => exact capture_of_next h (happen_some_capture rfl)
  | evCtrlWrite w => exact capture_of_next h (happen_some_capture (by split <;> rfl))
  | alarmFlagsWrite hi w => exact capture_of_next h (happen_some_capture rfl)
  | registerWrite addr w =>
    simp only [exec, execRegisterWrite] at h
    split at h
    · exact capture_of_next h (happen_some_capture (writePlain_capture ..))
    · cases h
  | powerOnReset cfgen cfgadr fsel => exact absurd rfl (hreset cfgen cfgadr fsel)
  | alertLineChange x low => exact capture_of_next h (alertLineChange_capture ..)
  | tickAdvance => exact capture_of_next h (happen_some_capture (takeMillisecond_capture s))
  | deadlineExpiry x pos => exact capture_of_next h (happen_capture (deadlineExpiry_capture x pos.val s))
  | pollDue i => exact capture_of_next h (happen_some_capture rfl)
  | pollOverrun i => exact capture_of_next h (happen_capture (pollOverrun_capture i s))
  | quarantineMiss i => exact capture_of_next h (happen_capture (quarantineMiss_capture i s))
  | holdoffEnd x => exact capture_of_next h (happen_capture (holdoffEnd_capture x s))
  | grantDecision x => exact capture_of_next h (happen_capture (grantDecision_capture x s))
  | busFreeTimeout x => exact capture_of_next h (happen_capture (busFreeTimeout_capture x s))
  | stretchTimeout x => exact capture_of_next h (happen_capture (stretchTimeout_capture x s))
  | dataMismatch x => exact capture_of_next h (happen_capture (dataMismatch_capture x s))
  | byteEnd x ack byte => exact capture_of_next h (happen_capture (byteEnd_capture x ack byte s))
  | presenceReport x => exact capture_of_next h (happen_capture (presenceReport_capture x s))
  | pageStore x byte => exact capture_of_next h (happen_capture (pageStore_capture x byte s))
  | retryGapBegin x => exact capture_of_next h (happen_capture (retryGapBegin_capture x s))
  | retryGapEnd x => exact capture_of_next h (happen_capture (retryGapEnd_capture x s))
  | transactionEnd x => exact capture_of_next h (happen_capture (transactionEnd_capture x s))
  | headFinished x => exact capture_of_next h (happen_capture (headFinished_capture x s))
  | outcomeReport x => exact capture_of_next h (happen_capture (outcomeReport_capture x s))
  | pollReadReport x => exact capture_of_next h (happen_capture (pollReadReport_capture x s))
  | alertResult x => exact capture_of_next h (happen_capture (alertResult_capture x s))
  | retirement x => exact capture_of_next h (happen_capture (retirement_capture x s))
  | recoverySucceeded x samples => exact capture_of_next h (happen_capture (recoverySucceeded_capture x samples s))
  | recoveryFailed x samples => exact capture_of_next h (happen_capture (recoveryFailed_capture x samples s))
  | recoveryHoldTimeout x => exact capture_of_next h (happen_capture (recoveryHoldTimeout_capture x s))
  | loaderReadReport => exact capture_of_next h (happen_capture (loaderReadReport_capture s))
  | rstnLow => exact capture_of_next h rfl

/-! ### TICK_LO and TICK_HI (R121) -/

@[simp] theorem window_tickHi (s : State) : window s 0x08 = s.capture := rfl

/-- The two halves of a tick give the tick back. -/
theorem tick_halves (t : Tick) : t.extractLsb' 16 16 ++ stampOf t = t := BitVec.extractLsb'_append_extractLsb'

theorem exec_tickLoRead {s : State} (hrst : s.rstnLow = false) :
    exec .tickLoRead s = .next { s with lastRead := stampOf s.tick, capture := s.tick.extractLsb' 16 16 } :=
  congrArg _ (happen_some hrst _)

/-- The power-on reset sets the capture register to 0000H, with a load and without. -/
theorem powerOnReset_capture (cfgen : Bool) (cfgadr fsel : BitVec 2) (s : State) :
    (powerOnReset cfgen cfgadr fsel s).capture = 0x0000 := by
  cases cfgen
  · rfl
  · exact beginLoad_capture _

theorem exec_registerWrite_tickLo (w : Word) {s : State} (hrst : s.rstnLow = false) :
    exec (.registerWrite 0x07 w) s = .next s := congrArg _ (happen_some hrst _)

theorem exec_registerWrite_tickHi (w : Word) {s : State} (hrst : s.rstnLow = false) :
    exec (.registerWrite 0x08 w) s = .next s := congrArg _ (happen_some hrst _)

/-- Settles O58: the halves a read of TICK_LO takes, and the capture register's frame over every command. -/
theorem tickReadCapturesTheHighHalf : Obligations.TickReadCapturesTheHighHalf := by
  unfold Obligations.TickReadCapturesTheHighHalf
  intro s hrst
  refine ⟨_, exec_tickLoRead hrst, tick_halves s.tick, rfl, rfl, fun c u h hlo hreset => ?frame,
    fun cfgen cfgadr fsel => ⟨_, rfl, powerOnReset_capture ..⟩, fun w => ⟨?writeLo, ?writeHi⟩⟩
  case frame => exact exec_capture h hlo hreset
  case writeLo => exact exec_registerWrite_tickLo w hrst
  case writeHi => exact exec_registerWrite_tickHi w hrst

end Sys2Proof.Machine
end

section
/-! SUPPORT. RECOVER (7.3, R131): the recovery it begins, and what EVENT shows of a segment's halt (R136). -/

namespace Sys2Proof.Machine

/-! ### HALT_x in EVENT (R136, R170, Table 12-11) -/

theorem bitIf_getElem (c : Bool) (w : Word) {n : Nat} (hn : n < 16) : (bitIf c w)[n] = (c && w[n]) := by
  cases c
  case false => exact BitVec.getElem_zero hn
  case true => rfl

/-- HALT_x is a level cause: its bit of EVENT shows whether the segment is HALTED, whatever is latched. -/
theorem eventWord_halt (s : State) (x : Seg) :
    (eventWord s).getLsbD (if x = Seg.a then 12 else 13) = haltCondition s x := by
  rw [eventWord, levelWord]
  cases x <;> simp [bitIf_getElem, latchedBits]

/-- A command's answer leaves the segments, so that HALT_x shows the state its effect left. -/
@[simp] theorem State.seg_done (s : State) (code arg : Byte) (x : Seg) : (s.done code arg).seg x = s.seg x := by
  cases x <;> rfl

/-! ### RECOVER (R131) -/

/-- The beginning of a recovery sets FAULT_x and changes the segment alone, by the record it begins (R122, R125, R136). -/
theorem beginRecovery_eq (s : State) (x : Seg) :
    beginRecovery s x = { s with latched := s.latched ||| (if x = Seg.a then 0x0400 else 0x0800) }.setSeg x
      { s.seg x with recovery := some (recoveryBegun s.tick (s.seg x).cfg.stretch) } := by cases x <;> rfl

/-- The effect of RECOVER, in the statements' words: RECOVERY, with a recovery that begins. -/
theorem recover_eq (x : Seg) (s : State) :
    recover x s = { s with latched := s.latched ||| (if x = Seg.a then 0x0400 else 0x0800) }.setSeg x
      { s.seg x with state := .recovery, recovery := some (recoveryBegun s.tick (s.seg x).cfg.stretch) } := by
  rw [recover, beginRecovery_eq]
  cases x <;> rfl

theorem exec_recover_notHalted {x : Seg} {s : State} (hs : HostReady s) (h : (s.seg x).state ≠ .halted) :
    exec (.recover (segArg x)) s = .next (s.refusal 0x0A (segArg x) ResultCode.notHalted.code) :=
  congrArg _ (command_eq_refusal hs (segArg_lt x) (by simp [h]))

theorem exec_recover_halted {x : Seg} {s : State} (hs : HostReady s) (h : (s.seg x).state = .halted) :
    exec (.recover (segArg x)) s = .next ((recover x s).done 0x0A (segArg x)) := by
  refine congrArg _ (command_eq_done hs (segArg_lt x) (by simp [h]) ?effect)
  rw [segOf_segArg, recover_eq, recover_eq]
  cases x <;> rfl

/-- After RECOVER the segment is in RECOVERY, so that HALT_x is no longer pending (R136). -/
theorem haltCondition_recover_done (x : Seg) (s : State) (code arg : Byte) :
    haltCondition ((recover x s).done code arg) x = false := by
  rw [haltCondition, State.seg_done, recover_eq, State.seg_setSeg_same]
  rfl

/-- Settles O28: RECOVER by whether the segment is HALTED, and HALT_x by the state it leaves. -/
theorem recoverBeginsARecovery : Obligations.RecoverBeginsARecovery := by
  unfold Obligations.RecoverBeginsARecovery
  refine fun x s hs => ⟨exec_recover_notHalted hs, fun hh => ⟨_, exec_recover_halted hs hh, ?halt, ?state⟩⟩
  case halt => rw [eventWord_halt, haltCondition_recover_done]
  case state => rw [recover_eq]

end Sys2Proof.Machine
end

section
/-! SUPPORT. The Poll Unit (chapter 8): what POLL_ENABLE and POLL_DISABLE do to an entry and to its target's reference count,
and the rows of the judgement tables. -/

namespace Sys2Proof.Machine

/-! ### POLL_ENABLE (R141) -/

theorem pollEnable_of_enabled {i : Fin 24} {s : State} (h : (s.poll i).enabled = true) : pollEnable i s = s := by
  rw [pollEnable, if_pos h]

theorem pollEnable_of_disabled {i : Fin 24} {s : State} (h : (s.poll i).enabled = false) :
    pollEnable i s =
      (s.setTarget (s.poll i).cfg.target
        { s.target (s.poll i).cfg.target with refs := (s.target (s.poll i).cfg.target).refs + 1 }).setPoll i
        ((s.poll i).enable s.tick) := by
  rw [pollEnable, if_neg (Bool.eq_false_iff.mp h)]

/-- An entry that is enabled already passes the checks of POLL_ENABLE, whatever its target. -/
theorem pollEnableChecks_of_enabled {i : Fin 24} {s : State} (h : (s.poll i).enabled = true) :
    firstFailing (pollEnableChecks i s) = none := by
  simp [pollEnableChecks, h]

/-- On a disabled entry the VACANT target is checked first, then whether the register index fits the target's width. -/
theorem pollEnableChecks_of_disabled {i : Fin 24} {s : State} (h : (s.poll i).enabled = false) :
    firstFailing (pollEnableChecks i s) =
      if (s.target (s.poll i).cfg.target).state = .vacant then some .badTarget
      else if (s.target (s.poll i).cfg.target).cfg.width = 1 ∧ 0xFF < (s.poll i).cfg.register.toNat then some .badIndex
      else none := by
  simp [pollEnableChecks, h]

theorem exec_pollEnable_enabled {arg : Byte} {s : State} (hs : HostReady s) (ha : arg.toNat < 24)
    (h : (s.poll (idx24 arg.toNat)).enabled = true) : exec (.pollEnable arg) s = .next (s.done 0x22 arg) :=
  congrArg _ (command_eq_done hs ha (pollEnableChecks_of_enabled h) (pollEnable_of_enabled h))

theorem exec_pollEnable_vacant {arg : Byte} {s : State} (hs : HostReady s) (ha : arg.toNat < 24)
    (h : (s.poll (idx24 arg.toNat)).enabled = false)
    (hv : (s.target (s.poll (idx24 arg.toNat)).cfg.target).state = .vacant) :
    exec (.pollEnable arg) s = .next (s.refusal 0x22 arg ResultCode.badTarget.code) :=
  congrArg _ (command_eq_refusal hs ha (by rw [pollEnableChecks_of_disabled h, if_pos hv]))

theorem exec_pollEnable_badIndex {arg : Byte} {s : State} (hs : HostReady s) (ha : arg.toNat < 24)
    (h : (s.poll (idx24 arg.toNat)).enabled = false)
    (hv : (s.target (s.poll (idx24 arg.toNat)).cfg.target).state ≠ .vacant)
    (hw : (s.target (s.poll (idx24 arg.toNat)).cfg.target).cfg.width = 1)
    (hr : 0xFF < (s.poll (idx24 arg.toNat)).cfg.register.toNat) :
    exec (.pollEnable arg) s = .next (s.refusal 0x22 arg ResultCode.badIndex.code) :=
  congrArg _ (command_eq_refusal hs ha (by rw [pollEnableChecks_of_disabled h, if_neg hv, if_pos ⟨hw, hr⟩]))

/-- A disabled entry whose target and register index pass is enabled, and its target counts one reference more. -/
theorem exec_pollEnable_disabled {arg : Byte} {s : State} (hs : HostReady s) (ha : arg.toNat < 24)
    (h : (s.poll (idx24 arg.toNat)).enabled = false)
    (hv : (s.target (s.poll (idx24 arg.toNat)).cfg.target).state ≠ .vacant)
    (hfit : (s.target (s.poll (idx24 arg.toNat)).cfg.target).cfg.width ≠ 1 ∨
      (s.poll (idx24 arg.toNat)).cfg.register.toNat ≤ 0xFF) :
    exec (.pollEnable arg) s = .next ((pollEnable (idx24 arg.toNat) s).done 0x22 arg) := by
  have hindex : ¬ ((s.target (s.poll (idx24 arg.toNat)).cfg.target).cfg.width = 1 ∧
      0xFF < (s.poll (idx24 arg.toNat)).cfg.register.toNat) := fun ⟨hw, hr⟩ => hfit.elim (· hw) (Nat.not_le.mpr hr)
  refine congrArg _ (command_eq_done hs ha ?checks ?effect)
  case checks => rw [pollEnableChecks_of_disabled h, if_neg hv, if_neg hindex]
  case effect => rw [pollEnable_of_disabled h, pollEnable_of_disabled (by exact h)]; rfl

/-! ### POLL_DISABLE (R142, R143) -/

theorem ReadMark.withdrawn_eq (m : ReadMark) : m.withdrawn = if m = .current then .orphaned else m := by
  cases m <;> rfl

theorem pollDisable_of_disabled {i : Fin 24} {s : State} (h : (s.poll i).enabled = false) : pollDisable i s = s := by
  rw [pollDisable, if_neg (Bool.eq_false_iff.mp h)]

theorem pollDisable_of_enabled {i : Fin 24} {s : State} (h : (s.poll i).enabled = true) :
    pollDisable i s =
      (s.setTarget (s.poll i).cfg.target
        { s.target (s.poll i).cfg.target with refs := (s.target (s.poll i).cfg.target).refs - 1 }).setPoll i
        { s.poll i with
          enabled := false, owed := .nothing
          mark := if (s.poll i).mark = ReadMark.current then .orphaned else (s.poll i).mark } := by
  rw [pollDisable, if_pos h, ReadMark.withdrawn_eq]

theorem exec_pollDisable_disabled {arg : Byte} {s : State} (hs : HostReady s) (ha : arg.toNat < 24)
    (h : (s.poll (idx24 arg.toNat)).enabled = false) : exec (.pollDisable arg) s = .next (s.done 0x23 arg) :=
  congrArg _ (command_eq_done hs ha firstFailing_nil (pollDisable_of_disabled h))

theorem exec_pollDisable_enabled {arg : Byte} {s : State} (hs : HostReady s) (ha : arg.toNat < 24)
    (h : (s.poll (idx24 arg.toNat)).enabled = true) :
    exec (.pollDisable arg) s = .next ((pollDisable (idx24 arg.toNat) s).done 0x23 arg) := by
  refine congrArg _ (command_eq_done hs ha firstFailing_nil ?effect)
  rw [pollDisable_of_enabled h, pollDisable_of_enabled (by exact h)]
  rfl

/-- Settles O36: both commands by whether the entry is enabled, POLL_ENABLE of a disabled one by the checks in order. -/
theorem pollEnableAndDisable : Obligations.PollEnableAndDisable := by
  unfold Obligations.PollEnableAndDisable
  refine fun arg s hs ha => ⟨fun hon => ⟨exec_pollEnable_enabled hs ha hon, ?disable⟩,
    fun hoff => ⟨exec_pollDisable_disabled hs ha hoff, exec_pollEnable_vacant hs ha hoff,
      exec_pollEnable_badIndex hs ha hoff, fun hv hfit => ?enable⟩⟩
  case disable => rw [exec_pollDisable_enabled hs ha hon, pollDisable_of_enabled hon]; rfl
  case enable => rw [exec_pollEnable_disabled hs ha hoff hv hfit, pollEnable_of_disabled hoff]; rfl

/-! ### The rows of Tables 8-3 and 8-4 (R153, R154) -/

section
variable {c : PollConfig} (v : Int)

/-- A mode that is known may stand in the configuration, so that the table row it selects is the one `judge` computes. -/
theorem judge_of_mode {m : CompareMode} (h : c.mode = m) (start : AlarmState) :
    judge c start v = judge { c with mode := m } start v := by
  subst h
  rfl

/-- The modes without limits leave every value NORMAL. -/
theorem judge_of_no_limits (h : c.mode = .none ∨ c.mode = .change) (start : AlarmState) : judge c start v = .normal := by
  obtain hnone | hchange := h
  · exact judge_of_mode v hnone start
  · exact judge_of_mode v hchange start

theorem judge_above_normal (h : c.mode = .above) :
    judge c .normal v = if valueOf c.signed c.high < v then .high else .normal := judge_of_mode v h .normal

theorem judge_above_high (h : c.mode = .above) : judge c .high v = if v ≤ highReturn c then .normal else .high :=
  judge_of_mode v h .high

theorem judge_below_normal (h : c.mode = .below) :
    judge c .normal v = if v < valueOf c.signed c.low then .low else .normal := judge_of_mode v h .normal

theorem judge_below_low (h : c.mode = .below) : judge c .low v = if lowReturn c ≤ v then .normal else .low :=
  judge_of_mode v h .low

theorem judge_outside_normal (h : c.mode = .outside) :
    judge c .normal v =
      if valueOf c.signed c.high < v then .high else if v < valueOf c.signed c.low then .low else .normal :=
  judge_of_mode v h .normal

theorem judge_outside_high (h : c.mode = .outside) :
    judge c .high v =
      if v < valueOf c.signed c.low then .low else if v ≤ highReturn c then .normal else .high :=
  judge_of_mode v h .high

theorem judge_outside_low (h : c.mode = .outside) :
    judge c .low v =
      if valueOf c.signed c.high < v then .high else if lowReturn c ≤ v then .normal else .low :=
  judge_of_mode v h .low

end

/-! ### CHANGE events and the value of a read (R152, R155) -/

/-- A CHANGE event is a move of the value by more than the hysteresis, up or down. -/
theorem changeEvent_iff (p : Poll) (v : Int) :
    changeEvent p v = true ↔ p.cfg.mode = .change ∧ p.valid = true ∧
      ((p.cfg.hysteresis.toNat : Int) < v - valueOf p.cfg.signed p.lastValue ∨
       (p.cfg.hysteresis.toNat : Int) < valueOf p.cfg.signed p.lastValue - v) := by
  simp only [changeEvent, Bool.and_eq_true, decide_eq_true_eq, lt_abs, neg_sub, and_assoc]

theorem assemble_of_width_one {c : PollConfig} (h : c.width = 1) (b : Byte) :
    assemble c [b] = if c.signed then b.signExtend 16 else b.setWidth 16 := by
  simp [assemble, h]

theorem assemble_of_width_two {c : PollConfig} (h : c.width = 2) (b0 b1 : Byte) :
    assemble c [b0, b1] = if c.order = .firstHigh then b0 ++ b1 else b1 ++ b0 := by
  have hwidth : c.width ≠ 1 := by rw [h]; decide
  rw [assemble, if_neg hwidth]
  cases c.order <;> rfl

/-- The word of a one-byte read has the byte's own value, in either signedness. -/
theorem valueOf_assemble_of_width_one {c : PollConfig} (h : c.width = 1) (b : Byte) :
    valueOf c.signed (assemble c [b]) = if c.signed = true then b.toInt else (b.toNat : Int) := by
  rw [assemble_of_width_one h, valueOf]
  cases c.signed
  case false => exact congrArg Nat.cast (BitVec.toNat_setWidth_of_le (by decide))
  case true => exact BitVec.toInt_signExtend_of_le (by decide)

/-- Settles O40: the tables row by row, the return thresholds being those of R153, and a value by the width of its read. -/
theorem judgementFollowsTheTables : Obligations.JudgementFollowsTheTables := by
  unfold Obligations.JudgementFollowsTheTables
  refine ⟨fun _ _ => rfl, fun c v => ⟨fun h => judge_of_no_limits v h .normal, fun h => ?above, fun h => ?below,
    fun h => ?outside⟩, changeEvent_iff, fun c b0 b1 => ⟨fun h => ?widthOne, fun h => ?widthTwo⟩⟩
  case above => exact ⟨judge_above_normal v h, judge_above_high v h⟩
  case below => exact ⟨judge_below_normal v h, judge_below_low v h⟩
  case outside => exact ⟨judge_outside_normal v h, judge_outside_high v h, judge_outside_low v h⟩
  case widthOne => exact valueOf_assemble_of_width_one h b0
  case widthTwo => exact assemble_of_width_two h b0 b1

end Sys2Proof.Machine
end

section
/-! SUPPORT. The Event Unit (chapter 10): the level conditions by what raises them, EVENT bit by bit, the two clear modes
and the interrupt request. -/

namespace Sys2Proof.Machine

/-! ### The level conditions (R59, R156) -/

theorem completeCondition_iff (s : State) :
    completeCondition s = true ↔ s.watermark.toNat ≤ s.ring.length ∨ ∃ e ∈ s.ring, e.notify = true := by
  rw [completeCondition, notifyCount, Bool.or_eq_true, decide_eq_true_iff, decide_eq_true_iff, List.countP_pos_iff]

theorem alarmCondition_iff (s : State) : alarmCondition s = true ↔ ∃ i, (s.poll i).flag = true := by
  rw [alarmCondition, Vector.any_toList, Vector.any_iff_exists, Fin.exists_iff]
  rfl

/-! ### EVENT bit by bit (R170, R171, Table 12-11) -/

/-- A condition shown at one position is seen at that position alone. -/
theorem bitIf_twoPow_getLsbD (c : Bool) {k : Nat} (hk : k < 16) (n : Nat) :
    (bitIf c (BitVec.twoPow 16 k)).getLsbD n = (c && decide (n = k)) := by
  cases c
  case false => exact BitVec.getLsbD_zero
  case true => simp [bitIf, BitVec.getLsbD_twoPow, hk, eq_comm]

/-- The level causes stand at positions 1, 3, 12 and 13. -/
theorem levelWord_eq_twoPow (s : State) :
    levelWord s =
      bitIf (completeCondition s) (BitVec.twoPow 16 1) ||| bitIf (alarmCondition s) (BitVec.twoPow 16 3) |||
        bitIf (haltCondition s .a) (BitVec.twoPow 16 12) ||| bitIf (haltCondition s .b) (BitVec.twoPow 16 13) := rfl

theorem levelWord_getLsbD (s : State) (n : Nat) :
    (levelWord s).getLsbD n =
      (completeCondition s && decide (n = 1) || alarmCondition s && decide (n = 3) ||
        haltCondition s .a && decide (n = 12) || haltCondition s .b && decide (n = 13)) := by
  simp [levelWord_eq_twoPow, bitIf_twoPow_getLsbD]

/-- The latched causes stand at the positions below 12 that no level cause has. -/
theorem latchedBits_getLsbD (n : Nat) : latchedBits.getLsbD n = decide (n < 12 ∧ n ≠ 1 ∧ n ≠ 3) := by
  rcases Nat.lt_or_ge n 16 with hn | hn
  · have at_position : ∀ m : Fin 16, latchedBits.getLsbD m = decide (m.val < 12 ∧ m.val ≠ 1 ∧ m.val ≠ 3) := by decide
    exact at_position ⟨n, hn⟩
  · rw [BitVec.getLsbD_of_ge _ _ hn, eq_comm, decide_eq_false_iff_not]
    omega

/-- A position of EVENT shows the level condition that has it, or the latched flag there, or 0. -/
theorem eventWord_getLsbD (s : State) (n : Nat) :
    (eventWord s).getLsbD n =
      if n = 1 then completeCondition s else if n = 3 then alarmCondition s
      else if n = 12 then haltCondition s .a else if n = 13 then haltCondition s .b
      else (decide (n < 12) && s.latched.getLsbD n) := by
  rw [eventWord, BitVec.getLsbD_or, BitVec.getLsbD_and, levelWord_getLsbD, latchedBits_getLsbD]
  split_ifs with h1 h3 h12 h13
  · simp [h1]
  · simp [h3]
  · simp [h12]
  · simp [h13]
  · simp [h1, h3, h12, h13, Bool.and_comm]

/-! ### The accesses to EVENT by the clear mode (R171, R172) -/

theorem exec_eventRead_writeOne {s : State} (hrst : s.rstnLow = false) (hm : s.clearMode = .writeOne) :
    exec .eventRead s = .next { s with lastRead := eventWord s } :=
  congrArg _ ((happen_some hrst _).trans (by simp only [hm]))

theorem exec_eventRead_readClears {s : State} (hrst : s.rstnLow = false) (hm : s.clearMode = .readClears) :
    exec .eventRead s = .next { s with lastRead := eventWord s, latched := s.latched &&& ~~~ eventWord s } :=
  congrArg _ ((happen_some hrst _).trans (by simp only [hm]))

theorem exec_eventWrite_writeOne (w : Word) {s : State} (hrst : s.rstnLow = false) (hm : s.clearMode = .writeOne) :
    exec (.eventWrite w) s = .next { s with latched := s.latched &&& ~~~ w } :=
  congrArg _ ((happen_some hrst _).trans (by simp only [hm]))

theorem exec_eventWrite_readClears (w : Word) {s : State} (hrst : s.rstnLow = false) (hm : s.clearMode = .readClears) :
    exec (.eventWrite w) s = .next s :=
  congrArg _ ((happen_some hrst _).trans (by simp only [hm]))

/-- Clearing the positions of a word clears exactly the flags it names. -/
theorem and_not_getLsbD (flags w : Word) (n : Nat) :
    (flags &&& ~~~ w).getLsbD n = (flags.getLsbD n && !w.getLsbD n) := by
  rw [BitVec.getLsbD_and, BitVec.getLsbD_not]
  rcases Nat.lt_or_ge n 16 with hn | hn
  · rw [decide_eq_true hn, Bool.true_and]
  · rw [BitVec.getLsbD_of_ge flags n hn, Bool.false_and, Bool.false_and]

/-! ### The interrupt request (R177) -/

theorem word_ne_zero_iff (w : Word) : w ≠ 0 ↔ ∃ n, w.getLsbD n = true := by
  have zero_iff : w = 0 ↔ ∀ n, w.getLsbD n = false := BitVec.zero_iff_eq_false
  simp only [ne_eq, zero_iff, not_forall, Bool.not_eq_false]

theorem interruptAsserted_iff (s : State) :
    interruptAsserted s = true ↔ ∃ n, (eventWord s).getLsbD n = true ∧ s.mask.getLsbD n = true := by
  rw [interruptAsserted, decide_eq_true_iff, word_ne_zero_iff]
  exact exists_congr fun n => by rw [BitVec.getLsbD_and, Bool.and_eq_true]

/-- With RSTn high, INTn is low exactly while the request is asserted. -/
theorem intnHigh_eq_false_iff {s : State} (hrst : s.rstnLow = false) :
    intnHigh s = false ↔ interruptAsserted s = true := by
  rw [intnHigh, hrst, Bool.false_or, Bool.not_eq_false']

/-- Settles O59: EVENT bit by bit, its two accesses by the clear mode, and INTn by the pending causes that are unmasked. -/
theorem eventReadsAndWritesActByTheClearMode : Obligations.EventReadsAndWritesActByTheClearMode := by
  unfold Obligations.EventReadsAndWritesActByTheClearMode
  refine ⟨fun s => ⟨completeCondition_iff s, alarmCondition_iff s⟩, fun w s hrst =>
    ⟨eventWord_getLsbD s, fun hm => ?writeOne, fun hm => ?readClears, ?intn⟩⟩
  case writeOne => exact ⟨exec_eventRead_writeOne hrst hm, exec_eventWrite_writeOne w hrst hm⟩
  case readClears =>
    exact ⟨exec_eventWrite_readClears w hrst hm, _, exec_eventRead_readClears hrst hm, rfl, rfl,
      and_not_getLsbD s.latched (eventWord s)⟩
  case intn => exact (intnHigh_eq_false_iff hrst).trans (interruptAsserted_iff s)

end Sys2Proof.Machine
end

section
/-! SUPPORT. What the engine does to a work item keeps: its supplier, a point of its phase, a stop made for no fault, and the
ranges of its counts (chapter 5). -/

namespace Sys2Proof.Machine

/-! ### What every change of an item keeps -/

/-- A stop is made for no fault of the wires (R122). -/
def Item.StopsForNoFault (it : Item) : Prop := ∀ o, it.phase = .stop (.ended o) → o.isFault = false

/-- The lengths of an item's form are those of its kind's row. -/
def Item.Sized (it : Item) : Prop :=
  ∀ kind present index w r page, it.form = .descriptor kind present index w r page → kind.lengthsOk w r = true

/-- The counts that a phase still has to raise are below what it has to send or receive. -/
def Item.PhaseInRange (it : Item) : Prop :=
  match it.phase with
  | .opening => it.writeCount = 0 ∧ it.readCount = 0
  | .index _ => it.writeCount = 0 ∧ it.readCount = 0
  | .dataOut => it.writeCount < it.plan.out ∧ it.readCount = 0
  | .restart => it.readCount = 0
  | .lengthByte => it.readCount = 0
  | .dataIn total => total ≤ 64 ∧ it.readCount ≤ total ∧ (it.form.page.isSome = true → it.point ≠ .ninth → it.readCount < total)
  | .stop .retry => it.writeCount = 0 ∧ it.readCount = 0 ∧ it.attempts ≤ it.retryLimit.toNat
  | .gap => it.writeCount = 0 ∧ it.readCount = 0 ∧ it.attempts ≤ it.retryLimit.toNat
  | .stop (.ended _) => True

theorem Item.inRange_iff (it : Item) :
    it.InRange ↔ it.Sized ∧ (1 ≤ it.attempts ∧ it.attempts ≤ 1 + it.retryLimit.toNat) ∧ it.writeCount ≤ 64 ∧
      it.readCount ≤ 64 ∧ it.PhaseInRange := Iff.rfl

/-- In the ninth bit a byte is counted already, so that every range of the phase goes on. -/
theorem Item.PhaseInRange.at_ninth {it : Item} (h : it.PhaseInRange) : { it with point := .ninth }.PhaseInRange := by
  unfold Item.PhaseInRange at h ⊢
  dsimp only
  generalize it.phase = ph at h ⊢
  match ph, h with
  | .dataIn _, ⟨htotal, hle, _⟩ => exact ⟨htotal, hle, fun _ hne => absurd rfl hne⟩
  | .opening, h | .index _, h | .dataOut, h | .restart, h | .lengthByte, h | .gap, h | .stop .retry, h
  | .stop (.ended _), h => exact h

/-- What holds of an item goes on to hold of what becomes of it. -/
structure Item.Keeps (it it' : Item) : Prop where
  supplier : it'.supplier = it.supplier
  stands : it.Stands → it'.Stands
  stops : it.StopsForNoFault → it'.StopsForNoFault
  range : it.InRange → it'.InRange

theorem Item.Keeps.refl (it : Item) : it.Keeps it := ⟨rfl, id, id, id⟩

theorem Item.Keeps.trans {i j k : Item} (h : i.Keeps j) (h' : j.Keeps k) : i.Keeps k :=
  ⟨h'.supplier.trans h.supplier, h'.stands ∘ h.stands, h'.stops ∘ h.stops, h'.range ∘ h.range⟩

/-- The ends of a hold and of a wait are in no law but that a hold stands only where the clock is given. -/
theorem Item.keeps_hold {it : Item} {h : Option Tick} (hc : h.isSome = true → it.Stands → it.clocked = true) :
    it.Keeps { it with hold := h } :=
  ⟨rfl, fun hs => ⟨hs.1, fun hh => hc hh hs⟩, id, id⟩

/-- An item whose phase has just begun keeps what it had where the phase is in range and no stop for a fault. -/
theorem Item.keeps_settle {it it' : Item} {now : Tick} (hsup : it'.supplier = it.supplier)
    (hstop : it'.StopsForNoFault) (hrange : it.InRange → (it'.settle now).InRange) : it.Keeps (it'.settle now) :=
  ⟨hsup, fun _ => Item.settle_stands _ _, fun _ => hstop, hrange⟩

/-- What the wires do to an item keeps every law of items. -/
theorem Item.wire_keeps {it it' : Item} {now : Tick} {w : Wire} (h : it.wire now w = some it') : it.Keeps it' := by
  rcases Item.wire_cases h with ⟨-, hph, hpt, rfl⟩ | ⟨-, hph, hpt, hhold, ⟨-, rfl⟩ | ⟨-, rfl⟩⟩ |
    ⟨-, hpt, hhold, -, rfl⟩ | ⟨-, hc, -, rfl⟩ | ⟨-, rfl⟩
  case inl =>
    refine ⟨rfl, fun hs => ?_, id, fun ⟨hsized, hatt, hwc, hrc, hph'⟩ => ⟨hsized, hatt, hwc, hrc, ?_⟩⟩
    · have hnone : it.hold = none := by
        by_contra hne
        have := hs.2 (Option.isSome_iff_ne_none.2 hne)
        simp [Item.clocked, hpt] at this
      simp [Item.Stands, hph, hnone]
    · simpa [hph] using hph'
  case inr.inl.inl =>
    refine ⟨rfl, fun _ => ?_, id, fun ⟨hsized, hatt, hwc, hrc, hph'⟩ => ⟨hsized, hatt, hwc, hrc, ?_⟩⟩
    · rcases hph with hph | hph <;> simp [Item.Stands, hph, hhold]
    · rcases hph with hph | hph <;> simpa [hph] using hph'
  case inr.inl.inr =>
    refine Item.keeps_settle rfl (fun o ho => ?_) fun ⟨hsized, hatt, hwc, hrc, _⟩ => ⟨hsized, hatt, hwc, hrc, trivial⟩
    cases ho
    rfl
  case inr.inr.inl =>
    refine ⟨rfl, fun hs => ⟨?_, by simp [hhold]⟩, id, fun ⟨hsized, hatt, hwc, hrc, hph'⟩ => ⟨hsized, hatt, hwc, hrc, ?_⟩⟩
    · have hst := hs.1
      clear h
      simp only [hpt] at hst
      cases hph : it.phase <;> simp_all
    · exact Item.PhaseInRange.at_ninth (it := it) hph'
  case inr.inr.inr.inl => exact Item.keeps_hold fun _ _ => hc
  case inr.inr.inr.inr => exact Item.keeps_hold (by simp)

/-- The item a row is taken of, as the wires brought it on, keeps every law of items. -/
theorem Item.bringTo_keeps_laws {ready : Item → Bool} {now : Tick} {it it' : Item} (h : it.bringTo ready now = some it') :
    it.Keeps it' ∧ ready it' = true :=
  Item.bringTo_keeps (P := it.Keeps) (fun hw hk => hk.trans (Item.wire_keeps hw)) h (Item.Keeps.refl it)

/-! ### The end of a byte (5.3, Table 5-7) -/

/-- Only a descriptor has a page. -/
theorem Form.page_eq_none {f : Form} (h : ∀ kind present index w r page, f ≠ .descriptor kind present index w r page) :
    f.page = none := by
  cases f with
  | descriptor kind present index w r page => exact absurd rfl (h _ _ _ _ _ _)
  | pollRead | alertRead | loaderRead => rfl

/-- What an item of a descriptor sends and reads is in the range of its lengths; what another reads is at most 16 bytes. -/
theorem Item.Sized.plan {it : Item} (h : it.Sized) :
    it.plan.out ≤ 64 ∧ (∀ n, it.plan.read = .fixed n → n ≤ 64 ∧ (it.form.page.isSome = true → 0 < n)) ∧
      ∀ n, it.plan.read = .block n → n ≤ 64 := by
  cases hf : it.form with
  | descriptor kind present index w r page =>
    have hrow := h kind present index w r page hf
    cases kind <;> simp [Kind.lengthsOk, lengthGiven] at hrow <;>
      simp [Item.plan, hf, Kind.sends, Kind.reads, Form.page] <;> omega
  | pollRead register width =>
    have := width.isLt
    simp [Item.plan, hf, Form.page]
    omega
  | alertRead register => simp [Item.plan, hf, Form.page]
  | loaderRead offset => simp [Item.plan, hf, Form.page]

/-- The first byte to be received is in range where none has been counted. -/
theorem Item.beginRead_inRange {it : Item} {now : Tick} (hs : it.Sized) (hrc : it.readCount = 0) :
    ({ it with phase := it.plan.beginRead }.settle now).PhaseInRange := by
  obtain ⟨-, hfixed, -⟩ := hs.plan
  unfold Plan.beginRead
  split
  case h_1 => exact trivial
  case h_2 n hn =>
    obtain ⟨hle, hpos⟩ := hfixed n hn
    have hzero : it.readCount ≤ n := by omega
    exact ⟨hle, hzero, fun hp _ => show it.readCount < n from hrc ▸ hpos hp⟩
  case h_3 => exact hrc

theorem Item.afterOut_inRange {it : Item} {now : Tick} (hrc : it.readCount = 0) :
    ({ it with phase := it.plan.afterOut }.settle now).PhaseInRange := by
  unfold Plan.afterOut
  split
  · exact trivial
  · exact hrc

theorem Item.afterIndex_inRange {it : Item} {now : Tick} (hwc : it.writeCount = 0) (hrc : it.readCount = 0) :
    ({ it with phase := it.plan.afterIndex }.settle now).PhaseInRange := by
  unfold Plan.afterIndex
  split
  · next hout => exact ⟨show it.writeCount < it.plan.out from hwc ▸ Nat.pos_of_ne_zero hout, hrc⟩
  · exact Item.afterOut_inRange hrc

theorem Item.afterAddress_inRange {it : Item} {now : Tick} (hs : it.Sized) (hwc : it.writeCount = 0)
    (hrc : it.readCount = 0) : ({ it with phase := it.plan.afterAddress }.settle now).PhaseInRange := by
  unfold Plan.afterAddress
  split_ifs with hindex hout
  · exact ⟨hwc, hrc⟩
  · exact ⟨show it.writeCount < it.plan.out from hwc ▸ Nat.pos_of_ne_zero hout, hrc⟩
  · exact Item.beginRead_inRange hs hrc

/-- A closing stop in place of the next phase is in range too. -/
theorem Item.orCut_inRange {it : Item} {next : Phase} {now : Tick}
    (h : ({ it with phase := next }.settle now).PhaseInRange) :
    ({ it with phase := it.orCut next }.settle now).PhaseInRange := by
  unfold Item.orCut
  split
  · exact trivial
  · exact h

/-- A length byte that is accepted opens a read in range. -/
theorem Item.lengthAccepted_le {it : Item} {byte : Byte} (hs : it.Sized) (h : lengthAccepted it.plan byte = true) :
    1 ≤ byte.toNat ∧ byte.toNat ≤ 64 := by
  unfold lengthAccepted at h
  split at h
  · next m hm =>
    simp only [Bool.and_eq_true, decide_eq_true_eq] at h
    have := hs.plan.2.2 m hm
    omega
  · cases h

/-- The end of a byte leaves supplier, form and attempts, and counts at most one byte sent, while it is in range. -/
theorem Item.byteEnd_frame {it it' : Item} {ack presence : Bool} {byte : Byte}
    (h : it.byteEnd ack byte = some (it', presence)) :
    it'.supplier = it.supplier ∧ it'.form = it.form ∧ it'.attempts = it.attempts ∧ it'.retryLimit = it.retryLimit ∧
      it'.readCount = it.readCount ∧
      (it'.writeCount = it.writeCount ∨ (it.phase = .dataOut ∧ it'.writeCount = it.writeCount + 1)) := by
  unfold Item.byteEnd at h
  dsimp only at h
  repeat' split at h
  all_goals
    simp only [Option.some.injEq, Prod.mk.injEq, reduceCtorEq] at h
  all_goals
    obtain ⟨rfl, -⟩ := h
    simp [*]

theorem Plan.beginRead_stop {p : Plan} {o : TxOutcome} (h : p.beginRead = .stop (.ended o)) : o = .ok := by
  unfold Plan.beginRead at h
  split at h <;> simp_all

theorem Plan.afterOut_stop {p : Plan} {o : TxOutcome} (h : p.afterOut = .stop (.ended o)) : o = .ok := by
  unfold Plan.afterOut at h
  split at h <;> simp_all

theorem Plan.afterIndex_stop {p : Plan} {o : TxOutcome} (h : p.afterIndex = .stop (.ended o)) : o = .ok := by
  unfold Plan.afterIndex at h
  split at h
  · cases h
  · exact Plan.afterOut_stop h

theorem Plan.afterAddress_stop {p : Plan} {o : TxOutcome} (h : p.afterAddress = .stop (.ended o)) : o = .ok := by
  unfold Plan.afterAddress at h
  split_ifs at h
  exact Plan.beginRead_stop h

theorem Item.orCut_stop {it : Item} {next : Phase} {o : TxOutcome} (h : it.orCut next = .stop (.ended o))
    (hn : next = .stop (.ended o) → o.isFault = false) : o.isFault = false := by
  unfold Item.orCut at h
  split at h
  · cases h; rfl
  · exact hn h

/-- The end of a byte makes no stop for a fault. -/
theorem Item.byteEnd_stops {it it' : Item} {ack presence : Bool} {byte : Byte}
    (h : it.byteEnd ack byte = some (it', presence)) : it'.StopsForNoFault := by
  intro o ho
  have ok_of {p : Prop} (hp : p → o = .ok) (h : p) : o.isFault = false := by rw [hp h]; rfl
  unfold Item.byteEnd at h
  dsimp only at h
  split at h
  case h_1 =>
    split_ifs at h <;> (obtain ⟨rfl, -⟩ := h)
    · exact Item.orCut_stop ho (ok_of Plan.afterAddress_stop)
    · cases ho; rfl
    · cases ho
    · cases ho; rfl
  case h_2 =>
    split_ifs at h <;> (obtain ⟨rfl, -⟩ := h)
    · exact Item.orCut_stop ho fun he => by cases he
    · exact Item.orCut_stop ho (ok_of Plan.afterIndex_stop)
    · exact Item.orCut_stop ho fun he => by cases he; rfl
  case h_3 =>
    split_ifs at h <;> (obtain ⟨rfl, -⟩ := h)
    · exact Item.orCut_stop ho fun he => by cases he
    · exact Item.orCut_stop ho (ok_of Plan.afterOut_stop)
    · exact Item.orCut_stop ho fun he => by cases he; rfl
  case h_4 =>
    split_ifs at h <;> (obtain ⟨rfl, -⟩ := h)
    · exact Item.orCut_stop ho (ok_of Plan.beginRead_stop)
    · exact Item.orCut_stop ho fun he => by cases he; rfl
  case h_5 =>
    split_ifs at h <;> (obtain ⟨rfl, -⟩ := h) <;> cases ho <;> rfl
  case h_6 =>
    split at h <;> split_ifs at h <;> (obtain ⟨rfl, -⟩ := h) <;> cases ho <;> rfl
  case h_7 => cases h
  case h_8 => cases h

/-- The phase that the end of a byte leads to is in range, where the item was and stood in its ninth bit. -/
theorem Item.byteEnd_phaseInRange {it it' : Item} {ack presence : Bool} {byte : Byte} {now : Tick}
    (h : it.byteEnd ack byte = some (it', presence)) (hr : it.InRange) : (it'.settle now).PhaseInRange := by
  obtain ⟨hs, ⟨hatt, hlim⟩, hwc, hrc, hph⟩ := (Item.inRange_iff it).1 hr
  unfold Item.PhaseInRange at hph
  unfold Item.byteEnd at h
  dsimp only at h
  split at h
  case h_1 he =>
    rw [he] at hph
    obtain ⟨hw0, hr0⟩ := hph
    split_ifs at h with _ _ hleft <;> (obtain ⟨rfl, -⟩ := h)
    · exact Item.orCut_inRange (Item.afterAddress_inRange hs hw0 hr0)
    · exact trivial
    · exact ⟨hw0, hr0, show it.attempts ≤ it.retryLimit.toNat by omega⟩
    · exact trivial
  case h_2 he =>
    rw [he] at hph
    obtain ⟨hw0, hr0⟩ := hph
    split_ifs at h <;> (obtain ⟨rfl, -⟩ := h)
    · exact Item.orCut_inRange ⟨hw0, hr0⟩
    · exact Item.orCut_inRange (Item.afterIndex_inRange hw0 hr0)
    · exact Item.orCut_inRange trivial
  case h_3 he =>
    rw [he] at hph
    obtain ⟨-, hr0⟩ := hph
    split_ifs at h with _ hmore <;> (obtain ⟨rfl, -⟩ := h)
    · exact Item.orCut_inRange (it := { it with writeCount := it.writeCount + 1 }) ⟨hmore, hr0⟩
    · exact Item.orCut_inRange (it := { it with writeCount := it.writeCount + 1 }) (Item.afterOut_inRange hr0)
    · exact Item.orCut_inRange trivial
  case h_4 he =>
    rw [he] at hph
    split_ifs at h <;> (obtain ⟨rfl, -⟩ := h)
    · exact Item.orCut_inRange (Item.beginRead_inRange hs hph)
    · exact Item.orCut_inRange trivial
  case h_5 he =>
    rw [he] at hph
    have hr0 : it.readCount = 0 := hph
    split_ifs at h with _ hacc <;> (obtain ⟨rfl, -⟩ := h)
    · exact trivial
    · obtain ⟨hpos, hle⟩ := Item.lengthAccepted_le hs hacc
      exact ⟨hle, show it.readCount ≤ _ by omega, fun _ _ => show it.readCount < _ by omega⟩
    · exact trivial
  case h_6 he =>
    rw [he] at hph
    obtain ⟨htotal, hle, -⟩ := hph
    split at h
    · split_ifs at h with _ hmore <;> (obtain ⟨rfl, -⟩ := h)
      · exact trivial
      · exact ⟨htotal, hle, fun _ _ => hmore⟩
      · exact trivial
    · next hform =>
      split_ifs at h <;> (obtain ⟨rfl, -⟩ := h)
      · refine ⟨htotal, hle, fun hpage => ?_⟩
        have hnone : it.form.page = none := Form.page_eq_none hform
        simp [hnone] at hpage
      · exact trivial
  case h_7 => cases h
  case h_8 => cases h

/-- The end of a byte keeps every law of items. -/
theorem Item.byteEnd_keeps {it it' : Item} {ack presence : Bool} {byte : Byte} {now : Tick}
    (h : it.byteEnd ack byte = some (it', presence)) : it.Keeps (it'.settle now) := by
  obtain ⟨hsup, hform, hatt, hlim, hrc, hwc⟩ := Item.byteEnd_frame h
  refine Item.keeps_settle hsup (Item.byteEnd_stops h) fun hr => ?_
  have hphase := Item.byteEnd_phaseInRange (now := now) h hr
  obtain ⟨hs, hattempts, hwrites, hreads, hph⟩ := (Item.inRange_iff it).1 hr
  have hsent : it'.writeCount ≤ 64 := by
    rcases hwc with hwc | ⟨hout, hwc⟩
    · rw [hwc]; exact hwrites
    · unfold Item.PhaseInRange at hph
      rw [hout] at hph
      have := hs.plan.1
      obtain ⟨hlt, -⟩ := hph
      omega
  refine (Item.inRange_iff _).2 ⟨?_, ?_, hsent, ?_, hphase⟩
  · unfold Item.Sized
    rw [Item.settle_form, hform]
    exact hs
  · rw [Item.settle_attempts, Item.settle_retryLimit, hatt, hlim]; exact hattempts
  · rw [Item.settle_readCount, hrc]; exact hreads

/-! ### The other happenings of an item -/

/-- A received byte is counted where the item still had one to receive. -/
theorem Item.pageStore_keeps {it : Item} {p : Fin 32} (hready : it.receivesData = true) (hp : it.form.page = some p) :
    it.Keeps { it with readCount := it.readCount + 1, point := .ninth } := by
  unfold Item.receivesData at hready
  split at hready
  case h_2 => cases hready
  case h_1 total hph =>
    simp only [Bool.and_eq_true, decide_eq_true_eq] at hready
    obtain ⟨hhold, hpt⟩ := hready
    refine ⟨rfl, fun _ => ?_, id, fun hr => ?_⟩
    · simp [Item.Stands, hph, hhold]
    · obtain ⟨hs, hatt, hwc, hrc, hrange⟩ := (Item.inRange_iff it).1 hr
      unfold Item.PhaseInRange at hrange
      rw [hph] at hrange
      obtain ⟨htotal, hle, hlt⟩ := hrange
      have hmore := hlt (by simp [hp]) (by simp [hpt])
      refine (Item.inRange_iff _).2 ⟨hs, hatt, hwc, show it.readCount + 1 ≤ 64 by omega, ?_⟩
      unfold Item.PhaseInRange
      simp only [hph]
      exact ⟨htotal, by omega, by simp⟩

/-- The gap opens after the stop before a retry. -/
theorem Item.gap_keeps {it : Item} {now : Tick} (h : it.phase = .stop .retry) :
    it.Keeps ({ it with phase := .gap }.settle now) := by
  refine Item.keeps_settle rfl (fun o ho => by cases ho) fun hr => ?_
  obtain ⟨hs, hatt, hwc, hrc, hrange⟩ := (Item.inRange_iff it).1 hr
  unfold Item.PhaseInRange at hrange
  rw [h] at hrange
  exact ⟨hs, hatt, hwc, hrc, hrange⟩

/-- The next attempt opens after the gap, counted. -/
theorem Item.reopen_keeps {it : Item} {now : Tick} (h : it.phase = .gap) : it.Keeps (it.reopen now) := by
  refine ⟨rfl, fun _ => ⟨trivial, by simp [Item.reopen]⟩, fun _ o ho => (by cases ho), fun hr => ?_⟩
  obtain ⟨hs, ⟨hatt, -⟩, hwc, hrc, hrange⟩ := (Item.inRange_iff it).1 hr
  unfold Item.PhaseInRange at hrange
  rw [h] at hrange
  obtain ⟨hw0, hr0, hleft⟩ := hrange
  exact ⟨hs, ⟨Nat.le_add_left .., show it.attempts + 1 ≤ 1 + it.retryLimit.toNat by omega⟩, hwc, hrc, hw0, hr0⟩

/-- A cut mark changes at most the stop before a retry, which becomes the closing stop. -/
theorem Item.markCut_keeps (it : Item) : it.Keeps it.markCut := by
  unfold Item.markCut
  split
  case h_3 hph =>
    refine ⟨rfl, fun hs => ?_, fun _ o ho => (by cases ho; rfl), fun ⟨hs, hatt, hwc, hrc, _⟩ => ⟨hs, hatt, hwc, hrc, trivial⟩⟩
    obtain ⟨hpt, hhold⟩ := hs
    rw [hph] at hpt
    refine ⟨hpt, fun hh => ?_⟩
    have hpt : it.point = .condition := hpt
    simp [Item.clocked, hpt]
  all_goals exact ⟨rfl, id, id, id⟩

/-- A record as a grant creates it stands at the bus-free check with counts 0. -/
theorem Item.granted_laws {t : Target} {i : Fin 32} {supplier : Supplier} {form : Form} {now : Tick}
    (hform : ∀ kind present index w r page, form = .descriptor kind present index w r page → kind.lengthsOk w r = true) :
    (Item.granted t i supplier form now).InRange :=
  ⟨hform, ⟨Nat.le_refl 1, Nat.le_add_right ..⟩, Nat.zero_le _, Nat.zero_le _, rfl, rfl⟩

/-- A record at its opening, in no hold, stands there and makes no stop. -/
theorem Item.stands_of_opening {it : Item} (hph : it.phase = .opening) (hhold : it.hold = none) :
    it.Stands ∧ it.StopsForNoFault := by
  refine ⟨?_, fun o ho => ?_⟩
  · simp [Item.Stands, hph, hhold]
  · rw [hph] at ho; cases ho

theorem Item.loaderPiece_inRange (cfgadr : BitVec 2) (offset : Nat) (now : Tick) :
    (Item.loaderPiece cfgadr offset now).InRange :=
  ⟨fun _ _ _ _ _ _ h => (by cases h), ⟨Nat.le_refl 1, Nat.le_add_right ..⟩, Nat.zero_le _, Nat.zero_le _, rfl, rfl⟩

end Sys2Proof.Machine
end

section
/-! SUPPORT. What a step can do, said once: every command and happening is a chain of moves, each of which keeps every law. -/

namespace Sys2Proof.Machine

/-! ### What a move does to an entry of a table -/

/-- The law of failure counts, of one entry (R7). -/
def Target.FailuresLawful (t : Target) : Prop :=
  (t.state = .quarantined → t.cfg.threshold ≠ 0 ∧ t.failures = t.cfg.threshold.toNat) ∧
  (t.state ≠ .quarantined → t.cfg.threshold ≠ 0 → t.failures < t.cfg.threshold.toNat)

/-- A change of a target entry that leaves its place and references, and takes it from no sweep. -/
structure Target.Eases (t t' : Target) : Prop where
  cfg : t'.cfg = t.cfg
  vacant : t'.state = .vacant ↔ t.state = .vacant
  refs : t'.refs = t.refs
  failures : t.FailuresLawful → t'.FailuresLawful
  range : t.failures ≤ 15 → t'.failures ≤ 15
  sweeps : t'.state = .quarantined → t.state = .quarantined

/-- The tie of the alarm state to a valid value, of one entry (R151). -/
def Poll.AlarmLawful (p : Poll) : Prop :=
  (p.alarm = .high ∨ p.alarm = .low → p.valid = true) ∧ (p.alarm = .stale → p.valid = false)

/-- The ranges of the counts of one poll entry. -/
def Poll.CountsLawful (p : Poll) : Prop := p.misses ≤ 15 ∧ p.overruns ≤ 255

/-- A change of a poll entry that leaves what it refers to while enabled. -/
structure Poll.Keeps (p p' : Poll) : Prop where
  enabled : p'.enabled = p.enabled
  target : p.enabled = true → p'.cfg.target = p.cfg.target
  alarm : p.AlarmLawful → p'.AlarmLawful
  counts : p.CountsLawful → p'.CountsLawful

theorem Poll.Keeps.refl (p : Poll) : p.Keeps p := ⟨rfl, fun _ => rfl, id, id⟩

theorem Poll.Keeps.trans {p q r : Poll} (h : p.Keeps q) (h' : q.Keeps r) : p.Keeps r :=
  ⟨h'.enabled.trans h.enabled, fun he => (h'.target (h.enabled.trans he)).trans (h.target he), h'.alarm ∘ h.alarm,
    h'.counts ∘ h.counts⟩

/-- A held descriptor that is cancelled, expires or is marked to be cut, and keeps all it was submitted with. -/
def Descriptor.Settles (d d' : Descriptor) : Prop :=
  ∃ st cut, d' = { d with state := st, cut := cut } ∧
    (st = d.state ∨ (d.state = .queued ∧ (st = .cancelled ∨ st = .expired)))

theorem Descriptor.Settles.refl (d : Descriptor) : d.Settles d := ⟨d.state, d.cut, rfl, .inl rfl⟩

/-- Bits of the staging registers that hold no field are 0 (R194). -/
def StagingClean (s : State) : Prop := ∀ addr, fieldBits addr ≠ 0 → window s addr &&& ~~~ fieldBits addr = 0

/-! ### What a move does to a segment -/

/-- All that is done to one segment beside its resolver. -/
inductive SegMove (g : Segment) : Segment → Prop
  | pause (h : g.state ≠ .disabled) : SegMove g { g with state := g.state.pause }
  | resume : SegMove g { g with state := g.state.resume }
  | reports (table : List TableReport) (polls : List PollReport) (results : List AlertResult) :
      SegMove g { g with tableReports := table, pollReports := polls, alertResults := results }
  | item {it it' : Item} (hit : g.item = some it) (keeps : it.Keeps it') : SegMove g { g with item := some it' }
  | closed {it it' : Item} {o : TxOutcome} (hit : g.item = some it) (keeps : it.Keeps it') (hs : it.supplier ≠ .loader)
      (ho : it.StopsForNoFault → o.isFault = false) :
      SegMove g { g.handOut it' o with state := g.state.afterTransaction o.isFault }
  | faulted {it it' : Item} {o : TxOutcome} (now : Tick) (hit : g.item = some it) (keeps : it.Keeps it')
      (hs : it.supplier ≠ .loader) :
      SegMove g { g.handOut it' o with
        state := g.state.afterTransaction true, recovery := some (.fresh now g.cfg.stretch) }
  | sampled {r r' : Recovery} (hr : g.recovery = some r) (keeps : r.InRange → r'.InRange) :
      SegMove g { g with recovery := some r' }
  | recovered {r : Recovery} (hr : g.recovery = some r) : SegMove g { g with recovery := none, state := g.state.recovered }
  | halted {r : Recovery} (hr : g.recovery = some r) : SegMove g { g with recovery := none, state := g.state.halt }
  | recover (now : Tick) (h : g.state = .halted) :
      SegMove g { g with state := .recovery, recovery := some (.fresh now g.cfg.stretch) }
  | queue {q : List Descriptor} (h : List.Forall₂ Descriptor.Settles g.queue q) : SegMove g { g with queue := q }
  | headFinished {r : HeadReport} {d : Descriptor} {rest : List Descriptor} (hr : g.headReport = some r)
      (hq : g.queue = d :: rest) (hd : d.state = .active) :
      SegMove g { g with
        headReport := none
        queue := { d with state := .finished r.outcome r.attempts r.writeCount r.readCount } :: rest }
  | headRefused {d : Descriptor} {rest : List Descriptor} (hs : g.state = .ready) (hq : g.queue = d :: rest)
      (hd : d.state = .queued) :
      SegMove g { g with queue := { d with state := .finished .targetQuarantined 0 0 0 } :: rest }
  | grantHead {d : Descriptor} {rest : List Descriptor} (t : Target) (now : Tick) (hs : g.state = .ready)
      (hq : g.queue = d :: rest) (hd : d.state = .queued) :
      SegMove g { g with
        state := .busy, streak := min (g.streak + 1) 8, queue := { d with state := .active } :: rest
        item := some (.granted t d.target .queue
          (.descriptor d.kind d.indexPresent d.index d.writeLen d.readLen d.page) now) }
  | grantPoll (t : Target) (i : Fin 32) (entry : Fin 24) (grant : Nat) (register : Word) (width : BitVec 2) (now : Tick)
      (hs : g.state = .ready) :
      SegMove g { g with
        state := .busy, streak := 0, item := some (.granted t i (.poll entry grant) (.pollRead register width) now) }
  | grantAlert (t : Target) (i : Fin 32) (register : Word) (now : Tick) (hs : g.state = .ready)
      (hsweep : g.resolver.inSweep = true) :
      SegMove g { g with
        state := .busy, item := some (.granted t i .alert (.alertRead register) now)
        resolver := { g.resolver with state := .sweeping, cursor := i.val + 1, outstanding := true } }
  | disable (hs : g.state = .ready ∨ g.state = .paused ∨ g.state = .halted) (hq : g.queue = []) :
      SegMove g { g.stopWatching with state := .disabled }

/-! ### What a move does to the part -/

/-- All that a step is made of. -/
inductive Move (s : State) : State → Prop
  | port (pending : List Instr) (wires : List (List (Seg × Wire))) (cmd cmdres lastRead capture : Word)
      (ptrPage : BitVec 5) (ptrOffset : BitVec 6) (tick : Tick) (grants : Nat) :
      Move s { s with
        pending := pending, wires := wires, cmd := cmd, cmdres := cmdres, lastRead := lastRead, capture := capture
        ptrPage := ptrPage, ptrOffset := ptrOffset, tick := tick, grants := grants }
  | latch {l : Word} (h : s.latched &&& ~~~ latchedBits = 0 → l &&& ~~~ latchedBits = 0) : Move s { s with latched := l }
  | stage {ds : Vector Word 5} {ts : Vector Word 6} {ps : Vector Word 8} {ss : Vector Word 3}
      (h : StagingClean s → StagingClean { s with ds := ds, ts := ts, ps := ps, ss := ss }) :
      Move s { s with ds := ds, ts := ts, ps := ps, ss := ss }
  | events {mask : Word} {mode : ClearMode} {watermark : BitVec 6}
      (hm : s.mask &&& ~~~ causeBits = 0 → mask &&& ~~~ causeBits = 0)
      (hw : 1 ≤ s.watermark.toNat ∧ s.watermark.toNat ≤ 32 → 1 ≤ watermark.toNat ∧ watermark.toNat ≤ 32) :
      Move s { s with mask := mask, clearMode := mode, watermark := watermark }
  | mem {a : Nat} (b : Byte) (h : a < 2048) : Move s { s with mem := s.mem.write a b }
  | pop : Move s { s with ring := s.ring.tail }
  | target {i : Fin 32} {t : Target} (h : (s.target i).Eases t) : Move s (s.setTarget i t)
  | outcome (i : Fin 32) (o : TxOutcome) : Move s (endSweeps (applyOutcome s i o))
  | edit {i : Fin 32} {t : Target} (hl : s.loader.state ≠ .loading) (hrefs : (s.target i).refs = 0)
      (ht : t = .empty ∨ ∃ cfg, t = .written cfg ∧ ∀ j, j ≠ i → (s.target j).state ≠ .vacant →
        (s.target j).cfg.segment = cfg.segment → (s.target j).cfg.address ≠ cfg.address) :
      Move s (endSweeps (s.setTarget i t))
  | polls {v : Vector Poll 24} (h : ∀ i, (s.poll i).Keeps (v.get i)) : Move s { s with polls := v }
  | pollEnable {i : Fin 24} (hl : s.loader.state ≠ .loading) (hoff : (s.poll i).enabled = false)
      (hv : (s.target (s.poll i).cfg.target).state ≠ .vacant) : Move s (pollEnable i s)
  | pollDisable {i : Fin 24} (hon : (s.poll i).enabled = true) : Move s (pollDisable i s)
  | submit (hl : s.loader.state ≠ .loading) (hc : firstFailing (submitChecks s) = none) : Move s (submit s)
  | retirement {x : Seg} {t : State} (h : retirement x s = some t) : Move s t
  | seg {x : Seg} {g : Segment} (h : SegMove (s.seg x) g) : Move s (s.setSeg x g)
  | loaderEnd {x : Seg} {it : Item} (r : LoaderReport) (hit : (s.seg x).item = some it) (hs : it.supplier = .loader) :
      Move s { s.setSeg x { s.seg x with item := none } with loader := { s.loader with report := some r } }
  | enable {x : Seg} (hl : s.loader.state ≠ .loading) (hd : (s.seg x).state = .disabled) :
      Move s (lookAtLine x (s.setSeg x { s.seg x with state := .ready, streak := 0 }))
  | segWrite {x : Seg} {c : SegConfig} (hs : stagedSeg s.ss = some c) : Move s (segWrite x s)
  | alertLine (x : Seg) (low : Bool) : Move s (alertLineChange x low s)
  | holdoffEnd {x : Seg} {t : State} (h : holdoffEnd x s = some t) : Move s t
  | alertResult {x : Seg} {t : State} (h : alertResult x s = some t) : Move s t
  | softReset (hs : HostReady s) : Move s (softReset s)
  | reload (hs : HostReady s) : Move s (reload s)
  | rstnLow : Move s (rstnLow s)
  | powerOnReset (cfgen : Bool) (cfgadr fsel : BitVec 2) : Move s (powerOnReset cfgen cfgadr fsel s)
  | loaderReadReport {t : State} (h : loaderReadReport s = some t) : Move s t

/-- A chain of moves. -/
abbrev Moves : State → State → Prop := Relation.ReflTransGen Move

theorem Move.moves {s t : State} (h : Move s t) : Moves s t := Relation.ReflTransGen.single h

/-- What every move keeps, a chain of moves keeps. -/
theorem Moves.keeps {P : State → Prop} (keep : ∀ s t, Move s t → P s → P t) {s t : State} (h : Moves s t) (hp : P s) : P t := by
  induction h with
  | refl => exact hp
  | tail _ hm ih => exact keep _ _ hm ih

/-! ### Moves that leave the plain part -/

/-- What a reference holds of a target entry: its configured fields, with the count, while the count is above zero (R10). -/
def Target.kept (t : Target) : Target :=
  if t.refs = 0 then .empty else { Target.empty with cfg := t.cfg, refs := t.refs }

theorem Target.Eases.kept {t t' : Target} (h : t.Eases t') : t'.kept = t.kept := by
  unfold Target.kept
  rw [h.cfg, h.refs]

/-- The registers, page bytes, ring and what references hold of the targets: what most commands leave alone. -/
def State.plain (s : State) : State :=
  { State.reset with
    cfgen := s.cfgen, cfgadr := s.cfgadr, fsel := s.fsel, ds := s.ds, ts := s.ts, ps := s.ps, ss := s.ss
    ptrPage := s.ptrPage, ptrOffset := s.ptrOffset, capture := s.capture, mem := s.mem, ring := s.ring, mask := s.mask
    clearMode := s.clearMode, watermark := s.watermark, tick := s.tick, pending := s.pending, wires := s.wires
    targets := vmap Target.kept s.targets }

theorem plain_setSeg (s : State) (x : Seg) (g : Segment) : (s.setSeg x g).plain = s.plain := by cases x <;> rfl

/-- A target entry stored with what its references hold kept leaves the plain part. -/
theorem plain_setTarget {s : State} {i : Fin 32} {t : Target} (h : t.kept = (s.target i).kept) :
    (s.setTarget i t).plain = s.plain := by
  refine congrArg (fun v => { s.plain with targets := v }) (vector_ext_get fun j => ?_)
  rw [vmap_get, vmap_get, State.setTarget_targets, vset_get]
  split
  case isTrue hj => rw [h, hj]; rfl
  case isFalse => rfl

theorem plain_endSweep (x : Seg) (s : State) : (endSweep x s).plain = s.plain := by
  obtain ⟨r, l, h⟩ := endSweep_shape x s
  rw [h]
  exact plain_setSeg ..

theorem plain_endSweeps (s : State) : (endSweeps s).plain = s.plain := by rw [endSweeps, plain_endSweep, plain_endSweep]

theorem plain_beginSweep (x : Seg) (s : State) : (beginSweep x s).plain = s.plain := by
  obtain ⟨r, l, h⟩ := beginSweep_shape x s
  rw [h]
  exact plain_setSeg ..

theorem plain_lookAtLine (x : Seg) (s : State) : (lookAtLine x s).plain = s.plain := by
  obtain ⟨r, l, h⟩ := lookAtLine_shape x s
  rw [h]
  exact plain_setSeg ..

/-- A final outcome leaves the configured fields and the reference count. -/
theorem Target.judged_kept (t : Target) (o : TxOutcome) : (t.judged o).1.kept = t.kept := by
  unfold Target.judged
  dsimp only
  split
  · rfl
  · rfl
  · split_ifs <;> rfl

theorem plain_applyOutcome (s : State) (i : Fin 32) (o : TxOutcome) : (applyOutcome s i o).plain = s.plain := by
  have hset := plain_setTarget (s := s) (i := i) (Target.judged_kept (s.target i) o)
  unfold applyOutcome
  dsimp only
  split
  · exact hset
  · exact hset

/-- A move that leaves the plain part. -/
def QuietMove (s t : State) : Prop := Move s t ∧ t.plain = s.plain

/-- A chain of moves that leave the plain part. -/
abbrev Quietly : State → State → Prop := Relation.ReflTransGen QuietMove

theorem Move.quietly {s t : State} (h : Move s t) (hp : t.plain = s.plain) : Quietly s t := Relation.ReflTransGen.single ⟨h, hp⟩

theorem Quietly.moves {s t : State} (h : Quietly s t) : Moves s t := Relation.ReflTransGen.mono (fun _ _ => And.left) _ _ h

theorem Quietly.plain {s t : State} (h : Quietly s t) : t.plain = s.plain := by
  induction h with
  | refl => rfl
  | tail _ hm ih => exact hm.2.trans ih

/-- A move of one segment leaves the plain part. -/
theorem SegMove.quietly {s : State} {x : Seg} {g : Segment} (h : SegMove (s.seg x) g) : Quietly s (s.setSeg x g) :=
  (Move.seg h).quietly (plain_setSeg ..)

/-- A target entry eased leaves the plain part. -/
theorem target_quietly {s : State} {i : Fin 32} {t : Target} (h : (s.target i).Eases t) : Quietly s (s.setTarget i t) :=
  (Move.target h).quietly (plain_setTarget h.kept)

/-! ### The command port and happenings -/

/-- The command port, the word last driven and the number of grants are in no law. -/
theorem quietly_port (s : State) (cmd cmdres lastRead : Word) (grants : Nat) :
    Quietly s { s with cmd := cmd, cmdres := cmdres, lastRead := lastRead, grants := grants } :=
  (Move.port s.pending s.wires cmd cmdres lastRead s.capture s.ptrPage s.ptrOffset s.tick grants).quietly rfl

theorem quietly_answer (s : State) (code : Byte) (r : ResultCode) : Quietly s (s.answer code r) :=
  quietly_port s s.cmd (wordOf code r.code) s.lastRead s.grants

theorem quietly_withCmd (s : State) (w : Word) : Quietly s { s with cmd := w } :=
  quietly_port s w s.cmdres s.lastRead s.grants

theorem causeBit_clean (c : Latched) : causeBit c &&& ~~~ latchedBits = 0 := by cases c <;> rfl

theorem quietly_raise (s : State) (c : Latched) : Quietly s (s.raise c) :=
  (Move.latch fun h => by rw [BitVec.and_comm, BitVec.and_or_distrib_left, BitVec.and_comm, h, BitVec.and_comm,
    causeBit_clean, BitVec.or_self]).quietly rfl

theorem quietly_refuse (s : State) (code : Byte) (r : ResultCode) : Quietly s (s.refuse code r) :=
  (quietly_answer s code r).trans (quietly_raise _ _)

/-- A command is a chain of moves where its effect is one, the command port having taken its word. -/
theorem chain_command {R : State → State → Prop} (sub : ∀ s t, QuietMove s t → R s t) {code arg : Byte} {limit : Nat}
    {checks : State → List (Bool × ResultCode)} {effect : State → State} {s : State}
    (he : HostReady s → firstFailing (checks s) = none → ∀ w,
      Relation.ReflTransGen R { s with cmd := w } (effect { s with cmd := w })) :
    Relation.ReflTransGen R s (command code arg limit checks effect s) := by
  rcases command_cases code arg limit checks effect s with ⟨-, h⟩ | ⟨r, -, h⟩ | ⟨hrst, hload, -, hc, h⟩
  · rw [h]
  · rw [h]; exact Relation.ReflTransGen.mono sub _ _ ((quietly_withCmd s _).trans (quietly_refuse _ _ _))
  · rw [h]
    exact (Relation.ReflTransGen.mono sub _ _ (quietly_withCmd s _)).trans
      ((he ⟨hrst, hload⟩ hc _).trans (Relation.ReflTransGen.mono sub _ _ (quietly_answer _ _ _)))

theorem quietly_command {code arg : Byte} {limit : Nat} {checks : State → List (Bool × ResultCode)} {effect : State → State}
    {s : State}
    (he : HostReady s → firstFailing (checks s) = none → ∀ w, Quietly { s with cmd := w } (effect { s with cmd := w })) :
    Quietly s (command code arg limit checks effect s) := chain_command (fun _ _ => id) he

theorem moves_command {code arg : Byte} {limit : Nat} {checks : State → List (Bool × ResultCode)} {effect : State → State}
    {s : State}
    (he : HostReady s → firstFailing (checks s) = none → ∀ w, Moves { s with cmd := w } (effect { s with cmd := w })) :
    Moves s (command code arg limit checks effect s) := chain_command (fun _ _ => And.left) he

/-- A happening is a chain of moves where what is taken is one. -/
theorem chain_happen {R : State → State → Prop} {s : State} {taken : Option State}
    (h : ∀ t, taken = some t → Relation.ReflTransGen R s t) : Relation.ReflTransGen R s (happen s taken) := by
  rcases happen_cases s taken with hsame | ⟨t, -, ht, hsame⟩
  · rw [hsame]
  · rw [hsame]; exact h t ht

end Sys2Proof.Machine
end

section
/-! SUPPORT. The staging registers in the window (12.3, Tables 12-4 to 12-7): where they stand, which of their bits hold fields,
and that what is written to them leaves the other bits 0. -/

namespace Sys2Proof.Machine

/-! ### Where the staging registers stand (Table 12-1) -/

theorem window_ds (s : State) : ∀ n : Fin 5, window s (0x11#6 + BitVec.ofNat 6 n.val) = s.ds.get n
  | 0 | 1 | 2 | 3 | 4 => rfl

theorem window_ts (s : State) : ∀ n : Fin 6, window s (0x20#6 + BitVec.ofNat 6 n.val) = s.ts.get n
  | 0 | 1 | 2 | 3 | 4 | 5 => rfl

theorem window_ps (s : State) : ∀ n : Fin 8, window s (0x28#6 + BitVec.ofNat 6 n.val) = s.ps.get n
  | 0 | 1 | 2 | 3 | 4 | 5 | 6 | 7 => rfl

theorem window_ss (s : State) : ∀ n : Fin 3, window s (0x30#6 + BitVec.ofNat 6 n.val) = s.ss.get n
  | 0 | 1 | 2 => rfl

/-- The addresses that hold fields are those of DS0..DS4, TS0..TS5, PS0..PS7 and SS0..SS2. -/
theorem staging_addr : ∀ addr : BitVec 6, fieldBits addr ≠ 0 →
    (∃ n : Fin 5, addr = 0x11#6 + BitVec.ofNat 6 n.val) ∨ (∃ n : Fin 6, addr = 0x20#6 + BitVec.ofNat 6 n.val) ∨
    (∃ n : Fin 8, addr = 0x28#6 + BitVec.ofNat 6 n.val) ∨ (∃ n : Fin 3, addr = 0x30#6 + BitVec.ofNat 6 n.val) := by
  decide

/-- A word whose bits outside a register's fields are 0. -/
def CleanAt (addr : BitVec 6) (w : Word) : Prop := w &&& ~~~ fieldBits addr = 0

/-- The staging registers are clean where each of them is. -/
theorem stagingClean_iff (s : State) :
    StagingClean s ↔
      (∀ n : Fin 5, CleanAt (0x11#6 + BitVec.ofNat 6 n.val) (s.ds.get n)) ∧
      (∀ n : Fin 6, CleanAt (0x20#6 + BitVec.ofNat 6 n.val) (s.ts.get n)) ∧
      (∀ n : Fin 8, CleanAt (0x28#6 + BitVec.ofNat 6 n.val) (s.ps.get n)) ∧
      (∀ n : Fin 3, CleanAt (0x30#6 + BitVec.ofNat 6 n.val) (s.ss.get n)) := by
  constructor
  · refine fun h => ⟨fun n => ?_, fun n => ?_, fun n => ?_, fun n => ?_⟩
    · rw [← window_ds s n]; exact h _ (by revert n; decide)
    · rw [← window_ts s n]; exact h _ (by revert n; decide)
    · rw [← window_ps s n]; exact h _ (by revert n; decide)
    · rw [← window_ss s n]; exact h _ (by revert n; decide)
  · rintro ⟨hds, hts, hps, hss⟩ addr ha
    rcases staging_addr addr ha with ⟨n, rfl⟩ | ⟨n, rfl⟩ | ⟨n, rfl⟩ | ⟨n, rfl⟩
    · rw [window_ds]; exact hds n
    · rw [window_ts]; exact hts n
    · rw [window_ps]; exact hps n
    · rw [window_ss]; exact hss n

/-! ### What a host write stores (R194) -/

theorem cleanAt_and (addr : BitVec 6) (w : Word) : CleanAt addr (w &&& fieldBits addr) := by
  rw [CleanAt, BitVec.and_assoc, BitVec.and_not_self]
  exact BitVec.and_zero

/-- A write to an address without fields stores nothing. -/
theorem writePlain_of_no_field {addr : BitVec 6} (h : fieldBits addr = 0) (s : State) (w : Word) :
    writePlain s addr w = s := by
  unfold writePlain
  dsimp only
  split
  case h_23 => rfl
  all_goals rename_i he; simp [fieldBits, he] at h

/-- All that a host write to a plain register can do: store its field bits in its staging register, or nothing. -/
theorem writePlain_cases (s : State) (addr : BitVec 6) (w : Word) :
    (fieldBits addr = 0 ∧ writePlain s addr w = s) ∨
    (∃ n : Fin 5, addr = 0x11#6 + BitVec.ofNat 6 n.val ∧
      writePlain s addr w = { s with ds := vset s.ds n (w &&& fieldBits addr) }) ∨
    (∃ n : Fin 6, addr = 0x20#6 + BitVec.ofNat 6 n.val ∧
      writePlain s addr w = { s with ts := vset s.ts n (w &&& fieldBits addr) }) ∨
    (∃ n : Fin 8, addr = 0x28#6 + BitVec.ofNat 6 n.val ∧
      writePlain s addr w = { s with ps := vset s.ps n (w &&& fieldBits addr) }) ∨
    (∃ n : Fin 3, addr = 0x30#6 + BitVec.ofNat 6 n.val ∧
      writePlain s addr w = { s with ss := vset s.ss n (w &&& fieldBits addr) }) := by
  by_cases h : fieldBits addr = 0
  · exact .inl ⟨h, writePlain_of_no_field h s w⟩
  right
  rcases staging_addr addr h with ⟨n, rfl⟩ | ⟨n, rfl⟩ | ⟨n, rfl⟩ | ⟨n, rfl⟩
  · exact .inl ⟨n, rfl, match n with | 0 | 1 | 2 | 3 | 4 => rfl⟩
  · exact .inr (.inl ⟨n, rfl, match n with | 0 | 1 | 2 | 3 | 4 | 5 => rfl⟩)
  · exact .inr (.inr (.inl ⟨n, rfl, match n with | 0 | 1 | 2 | 3 | 4 | 5 | 6 | 7 => rfl⟩))
  · exact .inr (.inr (.inr ⟨n, rfl, match n with | 0 | 1 | 2 => rfl⟩))

/-- Storing a clean word keeps a table of registers clean. -/
theorem cleanAt_vset {n : Nat} {v : Vector Word n} {base : BitVec 6} {k : Fin n} {w : Word}
    (hw : CleanAt (base + BitVec.ofNat 6 k.val) w) (hv : ∀ m : Fin n, CleanAt (base + BitVec.ofNat 6 m.val) (v.get m))
    (m : Fin n) : CleanAt (base + BitVec.ofNat 6 m.val) ((vset v k w).get m) := by
  rw [vset_get]
  split
  · next h => rw [h]; exact hw
  · exact hv m

/-- A host write to a plain register is a move. -/
theorem writePlain_moves (s : State) (addr : BitVec 6) (w : Word) : Moves s (writePlain s addr w) := by
  rcases writePlain_cases s addr w with ⟨-, h⟩ | ⟨n, ha, h⟩ | ⟨n, ha, h⟩ | ⟨n, ha, h⟩ | ⟨n, ha, h⟩ <;> rw [h]
  all_goals
    refine (Move.stage fun hs => ?_).moves
    obtain ⟨hds, hts, hps, hss⟩ := (stagingClean_iff s).1 hs
    rw [stagingClean_iff]
  · exact ⟨cleanAt_vset (ha ▸ cleanAt_and addr w) hds, hts, hps, hss⟩
  · exact ⟨hds, cleanAt_vset (ha ▸ cleanAt_and addr w) hts, hps, hss⟩
  · exact ⟨hds, hts, cleanAt_vset (ha ▸ cleanAt_and addr w) hps, hss⟩
  · exact ⟨hds, hts, hps, cleanAt_vset (ha ▸ cleanAt_and addr w) hss⟩

/-! ### The images of TGT_READ, POLL_READ and SEG_READ (R16, R106, R144) -/

theorem cleanAt_allBits {addr : BitVec 6} (h : fieldBits addr = 0xFFFF) (w : Word) : CleanAt addr w := by
  rw [CleanAt, h]
  exact BitVec.and_zero

theorem targetImage_clean (t : Target) (n : Fin 6) : CleanAt (0x20#6 + BitVec.ofNat 6 n.val) ((targetImage t).get n) := by
  unfold targetImage
  split
  case isTrue => match n with | 0 | 1 | 2 | 3 | 4 | 5 => exact BitVec.zero_and
  case isFalse =>
    match n with
    | 0 =>
      show (BitVec.ofBool (segBit t.cfg.segment) ++ t.cfg.address ++ t.cfg.width ++ BitVec.ofBool t.cfg.speed.bit ++
        t.cfg.retryLimit ++ BitVec.ofBool t.cfg.alertCapable ++ 0#1) &&& (0#1 ++ 0#7 ++ 0#2 ++ 0#1 ++ 0#3 ++ 0#1 ++ 1#1) = 0
      simp only [BitVec.and_append, BitVec.and_zero, BitVec.zero_and]
      rfl
    | 1 =>
      show (t.cfg.threshold ++ 0#4 ++ t.cfg.alertMask) &&& (0#4 ++ 15#4 ++ 0#8) = 0
      simp only [BitVec.and_append, BitVec.and_zero, BitVec.zero_and]
      rfl
    | 3 =>
      show (t.state.code ++ BitVec.ofNat 4 t.failures ++ BitVec.ofNat 6 t.refs ++ BitVec.ofBool t.alerting ++
        BitVec.ofBool t.alertValid ++ 0#1) &&& (0#3 ++ 0#4 ++ 0#6 ++ 0#1 ++ 0#1 ++ 1#1) = 0
      simp only [BitVec.and_append, BitVec.and_zero, BitVec.zero_and]
      rfl
    | 4 =>
      show (0#8 ++ t.alertValue : BitVec (8 + 8)) &&& (255#8 ++ 0#8 : BitVec (8 + 8)) = 0#(8 + 8)
      simp only [BitVec.and_append, BitVec.and_zero, BitVec.zero_and]
      rfl
    | 2 | 5 => exact cleanAt_allBits rfl _

theorem pollImage_clean (p : Poll) (n : Fin 8) : CleanAt (0x28#6 + BitVec.ofNat 6 n.val) ((pollImage p).get n) := by
  match n with
  | 0 =>
    show (BitVec.ofBool p.cfg.notify ++ p.cfg.width ++ BitVec.ofBool p.cfg.order.bit ++ BitVec.ofBool p.cfg.signed ++
      p.cfg.mode.code ++ 0#3 ++ BitVec.ofNat 5 p.cfg.target.val) &&& (0#1 ++ 0#2 ++ 0#1 ++ 0#1 ++ 0#3 ++ 7#3 ++ 0#5) = 0
    simp only [BitVec.and_append, BitVec.and_zero, BitVec.zero_and]
    rfl
  | 6 =>
    show (p.cfg.hysteresis ++ p.cfg.staleLimit ++ 0#3 ++ BitVec.ofBool p.enabled) &&& (0#8 ++ 0#4 ++ 7#3 ++ 0#1) = 0
    simp only [BitVec.and_append, BitVec.and_zero, BitVec.zero_and]
    rfl
  | 1 | 2 | 3 | 4 | 5 | 7 => exact cleanAt_allBits rfl _

theorem segImage_clean (c : SegConfig) (n : Fin 3) : CleanAt (0x30#6 + BitVec.ofNat 6 n.val) ((segImage c).get n) := by
  match n with
  | 1 =>
    show (c.retryGap ++ c.pollShare ++ 0#7 ++ BitVec.ofBool c.alertEnable) &&& (0#4 ++ 0#4 ++ 127#7 ++ 0#1) = 0
    simp only [BitVec.and_append, BitVec.and_zero, BitVec.zero_and]
    rfl
  | 2 =>
    show (0#8 ++ c.holdoff : BitVec (8 + 8)) &&& (255#8 ++ 0#8 : BitVec (8 + 8)) = 0#(8 + 8)
    simp only [BitVec.and_append, BitVec.and_zero, BitVec.zero_and]
    rfl
  | 0 => exact cleanAt_allBits rfl _

theorem moves_ts {s : State} {ts : Vector Word 6} (h : ∀ n : Fin 6, CleanAt (0x20#6 + BitVec.ofNat 6 n.val) (ts.get n)) :
    Moves s { s with ts := ts } := by
  refine (Move.stage fun hs => ?_).moves
  obtain ⟨hds, -, hps, hss⟩ := (stagingClean_iff s).1 hs
  exact (stagingClean_iff _).2 ⟨hds, h, hps, hss⟩

theorem moves_ps {s : State} {ps : Vector Word 8} (h : ∀ n : Fin 8, CleanAt (0x28#6 + BitVec.ofNat 6 n.val) (ps.get n)) :
    Moves s { s with ps := ps } := by
  refine (Move.stage fun hs => ?_).moves
  obtain ⟨hds, hts, -, hss⟩ := (stagingClean_iff s).1 hs
  exact (stagingClean_iff _).2 ⟨hds, hts, h, hss⟩

theorem moves_ss {s : State} {ss : Vector Word 3} (h : ∀ n : Fin 3, CleanAt (0x30#6 + BitVec.ofNat 6 n.val) (ss.get n)) :
    Moves s { s with ss := ss } := by
  refine (Move.stage fun hs => ?_).moves
  obtain ⟨hds, hts, hps, -⟩ := (stagingClean_iff s).1 hs
  exact (stagingClean_iff _).2 ⟨hds, hts, hps, h⟩

end Sys2Proof.Machine
end

section
/-! SUPPORT. Every command and happening as a chain of moves: the engine, the queues, the tables, the loader and the resets. -/

namespace Sys2Proof.Machine

/-! ### Words and bits outside the laws -/

theorem quietly_withGrants (s : State) (grants : Nat) : Quietly s { s with grants := grants } :=
  quietly_port s s.cmd s.cmdres s.lastRead grants

theorem quietly_withLastRead (s : State) (w : Word) : Quietly s { s with lastRead := w } :=
  quietly_port s s.cmd s.cmdres w s.grants

theorem quietly_clearLatched (s : State) (w : Word) : Quietly s { s with latched := s.latched &&& ~~~ w } :=
  (Move.latch fun h => by
    rw [BitVec.and_assoc, BitVec.and_comm (~~~ w), ← BitVec.and_assoc, h]; exact BitVec.zero_and).quietly rfl

/-- Registers of the port, the tick and the grants are in no law. -/
theorem moves_port (s : State) (pending : List Instr) (wires : List (List (Seg × Wire)))
    (cmd cmdres lastRead capture : Word) (ptrPage : BitVec 5) (ptrOffset : BitVec 6) (tick : Tick) (grants : Nat) :
    Moves s { s with
      pending := pending, wires := wires, cmd := cmd, cmdres := cmdres, lastRead := lastRead, capture := capture
      ptrPage := ptrPage, ptrOffset := ptrOffset, tick := tick, grants := grants } :=
  (Move.port ..).moves

theorem moves_withTick (s : State) (tick : Tick) : Moves s { s with tick := tick } :=
  moves_port s s.pending s.wires s.cmd s.cmdres s.lastRead s.capture s.ptrPage s.ptrOffset tick s.grants

theorem moves_withWires (s : State) (wires : List (List (Seg × Wire))) : Moves s { s with wires := wires } :=
  moves_port s s.pending wires s.cmd s.cmdres s.lastRead s.capture s.ptrPage s.ptrOffset s.tick s.grants

theorem moves_advancePointer (s : State) : Moves s s.advancePointer :=
  moves_port s s.pending s.wires s.cmd s.cmdres s.lastRead s.capture s.ptrPage (s.ptrOffset + 1) s.tick s.grants

/-! ### The wires -/

theorem Recovery.sample_inRange {r r' : Recovery} {high : Bool} (h : r.sample high = .on r') (hr : r.InRange) :
    r'.InRange := by
  obtain ⟨hle, hlt⟩ := hr
  unfold Recovery.sample at h
  dsimp only at h
  unfold Recovery.InRange
  cases hst : r.stage <;> cases high <;> simp only [hst] at h hlt <;> simp_all <;> grind

theorem Recovery.wire_inRange {r r' : Recovery} {now : Tick} {stretch : Byte} {w : Wire}
    (h : r.wire now stretch w = some r') (hr : r.InRange) : r'.InRange := by
  cases w with
  | held =>
    simp only [Recovery.wire, Option.ite_none_right_eq_some, Option.some.injEq] at h
    obtain ⟨-, rfl⟩ := h
    exact hr
  | clockHigh =>
    simp only [Recovery.wire, Option.some.injEq] at h
    subst h
    exact hr
  | sampled high =>
    simp only [Recovery.wire, Option.ite_none_right_eq_some] at h
    obtain ⟨-, h⟩ := h
    split at h
    · next r'' hon =>
      cases h
      exact Recovery.sample_inRange hon hr
    · cases h
  | busFree | started | eighth => simp [Recovery.wire] at h

theorem takeWire_quietly (x : Seg) (w : Wire) (s : State) : Quietly s (takeWire x w s) := by
  rcases takeWire_cases x w s with h | ⟨g, hw, h⟩ <;> rw [h]
  rcases Segment.wire_cases hw with ⟨it, it', hit, hwire, rfl⟩ | ⟨r, r', -, hr, hwire, rfl⟩
  · exact (SegMove.item hit (Item.wire_keeps hwire)).quietly
  · exact (SegMove.sampled hr (Recovery.wire_inRange hwire)).quietly

theorem takeWires_quietly (seen : List (Seg × Wire)) (s : State) : Quietly s (takeWires seen s) :=
  takeWires_keeps (P := Quietly s) (fun x w _ h => h.trans (takeWire_quietly x w _)) seen s .refl

theorem takeBefore_quietly (seen : List (Seg × Wire)) (s : State) : Quietly s (takeBefore seen s) := by
  unfold takeBefore
  split
  · exact .refl
  · exact takeWires_quietly seen s

theorem takeMillisecond_moves (s : State) : Moves s (takeMillisecond s) := by
  rcases takeMillisecond_cases s with ⟨-, h⟩ | ⟨seen, rest, -, h⟩ <;> rw [h]
  exact (moves_withWires s rest).trans (takeWires_quietly seen _).moves

/-! ### The end of an item -/

/-- What is handed out leaves the state of the segment to the end of the transaction. -/
theorem handOut_state (g : Segment) (it : Item) (o : TxOutcome) : (g.handOut it o).state = g.state :=
  (handOut_frame g it o).2.2.1

theorem handOut_cfg (g : Segment) (it : Item) (o : TxOutcome) : (g.handOut it o).cfg = g.cfg := (handOut_frame g it o).2.1

theorem closeItem_quietly {s : State} {x : Seg} {it it' : Item} {o : TxOutcome} (hit : (s.seg x).item = some it)
    (keeps : it.Keeps it') (ho : it.StopsForNoFault → o.isFault = false) : Quietly s (closeItem s x it' o) := by
  by_cases hs : it.supplier = .loader
  · rw [closeItem_loader (keeps.supplier.trans hs)]
    exact (Move.loaderEnd _ hit hs).quietly (plain_setSeg ..)
  · rw [closeItem_shape (by rwa [keeps.supplier]), handOut_state]
    exact (SegMove.closed hit keeps hs ho).quietly

/-- A fault ends an item that is not the loader's with its recovery begun. -/
theorem faultEnd_shape {it : Item} (h : it.supplier ≠ .loader) (s : State) (x : Seg) {o : TxOutcome} (ho : o.isFault = true) :
    faultEnd s x it o = (s.setSeg x { (s.seg x).handOut it o with
      state := (s.seg x).state.afterTransaction true
      recovery := some (.fresh s.tick (s.seg x).cfg.stretch) }).raise (faultCause x) := by
  have hbegin : faultEnd s x it o = beginRecovery (closeItem s x it o) x := by
    unfold faultEnd
    split
    · contradiction
    · rfl
  rw [hbegin, closeItem_shape h, handOut_state, ho, ← handOut_cfg (s.seg x) it o]
  cases x <;> rfl

theorem faultEnd_loader {it : Item} (h : it.supplier = .loader) (s : State) (x : Seg) (o : TxOutcome) :
    faultEnd s x it o = closeItem s x it o := by
  unfold faultEnd
  simp [h]

theorem faultEnd_quietly {s : State} {x : Seg} {it it' : Item} {o : TxOutcome} (hit : (s.seg x).item = some it)
    (keeps : it.Keeps it') (ho : o.isFault = true) : Quietly s (faultEnd s x it' o) := by
  by_cases hs : it.supplier = .loader
  · rw [faultEnd_loader (keeps.supplier.trans hs), closeItem_loader (keeps.supplier.trans hs)]
    exact (Move.loaderEnd _ hit hs).quietly (plain_setSeg ..)
  · rw [faultEnd_shape (by rwa [keeps.supplier]) s x ho]
    exact (SegMove.faulted s.tick hit keeps hs).quietly.trans (quietly_raise _ _)

/-! ### Happenings of the engine -/

theorem busFreeTimeout_quietly {x : Seg} {s t : State} (h : busFreeTimeout x s = some t) : Quietly s t := by
  unfold busFreeTimeout at h
  split at h
  · next it hit =>
    split at h
    · cases h; exact faultEnd_quietly hit (Item.Keeps.refl it) rfl
    · cases h
  · cases h

theorem stretchTimeout_quietly {x : Seg} {s t : State} (h : stretchTimeout x s = some t) : Quietly s t := by
  unfold stretchTimeout at h
  split at h
  · next it hit =>
    split at h
    · split at h
      · cases h; exact faultEnd_quietly hit (Item.Keeps.refl it) rfl
      · cases h
    · cases h
  · cases h

/-- A row that is taken of the item the wires brought on. -/
theorem bind_bringTo {s : State} {x : Seg} {ready : Item → Bool} {it : Item}
    (h : (s.seg x).item.bind (Item.bringTo ready s.tick) = some it) :
    ∃ it0, (s.seg x).item = some it0 ∧ it0.Keeps it ∧ ready it = true := by
  obtain ⟨it0, hit, hb⟩ := Option.bind_eq_some_iff.1 h
  obtain ⟨hk, hr⟩ := Item.bringTo_keeps_laws hb
  exact ⟨it0, hit, hk, hr⟩

theorem dataMismatch_quietly {x : Seg} {s t : State} (h : dataMismatch x s = some t) : Quietly s t := by
  obtain ⟨it, hb, rfl⟩ := Option.map_eq_some_iff.1 h
  obtain ⟨it0, hit, hk, -⟩ := bind_bringTo hb
  exact faultEnd_quietly hit hk rfl

/-- A report of a segment's engine is in no law. -/
theorem quietly_reports {s : State} {x : Seg} {g : Segment} (table : List TableReport) (polls : List PollReport)
    (results : List AlertResult) (h : Quietly s (s.setSeg x g)) :
    Quietly s (s.setSeg x { g with tableReports := table, pollReports := polls, alertResults := results }) := by
  refine h.trans ?_
  have hm := SegMove.reports (g := (s.setSeg x g).seg x) table polls results
  rw [State.seg_setSeg_same] at hm
  have hmoves := SegMove.quietly (s := s.setSeg x g) (x := x) (by rw [State.seg_setSeg_same]; exact hm)
  rwa [State.setSeg_setSeg] at hmoves

theorem Segment.report_eq (g : Segment) (it : Item) (body : ReportBody) :
    ∃ table, g.report it body = { g with tableReports := table } := by
  unfold Segment.report
  split
  · exact ⟨_, rfl⟩
  · exact ⟨g.tableReports, rfl⟩

theorem Segment.reportPresence_eq (g : Segment) (it : Item) :
    ∃ table, g.reportPresence it = { g with tableReports := table } := by
  unfold Segment.reportPresence
  split
  · exact ⟨g.tableReports, rfl⟩
  · exact g.report_eq it _

theorem byteEnd_quietly {x : Seg} {ack : Bool} {byte : Byte} {s t : State} (h : byteEnd x ack byte s = some t) :
    Quietly s t := by
  unfold byteEnd at h
  split at h
  case h_2 => cases h
  case h_1 it hb =>
    obtain ⟨it0, hit, hk, -⟩ := bind_bringTo hb
    split at h
    case h_2 => cases h
    case h_1 it' presence he =>
      cases h
      have hitem := SegMove.quietly (s := s) (SegMove.item hit (hk.trans (Item.byteEnd_keeps (now := s.tick) he)))
      rw [State.updSeg_eq]
      dsimp only
      split
      · obtain ⟨table, hr⟩ := Segment.reportPresence_eq { s.seg x with item := some (it'.settle s.tick) } it
        rw [hr]
        exact quietly_reports table _ _ hitem
      · exact hitem

theorem pageStore_moves {x : Seg} {byte : Byte} {s t : State} (h : pageStore x byte s = some t) : Moves s t := by
  unfold pageStore at h
  split at h
  case h_2 => cases h
  case h_1 it hb =>
    obtain ⟨it0, hit, hk, hr⟩ := bind_bringTo hb
    split at h
    case h_2 => cases h
    case h_1 p hp =>
      cases h
      refine (Move.mem byte (pageAddr_lt p it.readCount)).moves.trans ?_
      refine (SegMove.quietly (SegMove.item (it := it0) ?_ (hk.trans (Item.pageStore_keeps hr hp)))).moves
      cases x <;> exact hit

theorem retryGapBegin_quietly {x : Seg} {s t : State} (h : retryGapBegin x s = some t) : Quietly s t := by
  obtain ⟨it, hb, rfl⟩ := Option.map_eq_some_iff.1 h
  obtain ⟨it0, hit, hk, hr⟩ := bind_bringTo hb
  simp only [Item.atRetryStop, Bool.and_eq_true, decide_eq_true_eq] at hr
  exact (SegMove.item hit (hk.trans (Item.gap_keeps hr.2))).quietly

theorem retryGapEnd_quietly {x : Seg} {s t : State} (h : retryGapEnd x s = some t) : Quietly s t := by
  unfold retryGapEnd at h
  split at h
  · next it hit =>
    split at h
    · next hripe =>
      cases h
      simp only [Bool.and_eq_true, decide_eq_true_eq] at hripe
      exact (SegMove.item hit (Item.reopen_keeps hripe.1)).quietly
    · cases h
  · cases h

theorem Item.closing_eq_some {it : Item} {o : TxOutcome} (h : it.closing = some o) : it.phase = .stop (.ended o) := by
  unfold Item.closing at h
  split at h
  · next hph => cases h; exact hph
  · cases h

/-- An item with a closing stop under way, which is made for no fault, ends with its reports. -/
theorem transactionEnd_quietly {x : Seg} {s t : State} (h : transactionEnd x s = some t) : Quietly s t := by
  unfold transactionEnd at h
  split at h
  case h_2 => cases h
  case h_1 it hb =>
    obtain ⟨it0, hit, hk, -⟩ := bind_bringTo hb
    obtain ⟨o, ho, rfl⟩ := Option.map_eq_some_iff.1 h
    exact closeItem_quietly hit hk fun hs => hk.stops hs o (Item.closing_eq_some ho)

end Sys2Proof.Machine
end

section
/-! SUPPORT. Every command and happening as a chain of moves, continued: recovery, arbiter, queues, tables, host accesses; and
that every step is such a chain. -/

namespace Sys2Proof.Machine

/-! ### Recovery and arbiter -/

theorem recoverySucceeded_quietly {x : Seg} {samples : List Bool} {s t : State} (h : recoverySucceeded x samples s = some t) :
    Quietly s t := by
  unfold recoverySucceeded at h
  split at h
  · next r hr =>
    split at h
    · cases h; exact (SegMove.recovered hr).quietly
    · cases h
  · cases h

theorem failRecovery_quietly {x : Seg} {s : State} {r : Recovery} (hr : (s.seg x).recovery = some r) :
    Quietly s (failRecovery s x) := (SegMove.halted hr).quietly

theorem recoveryFailed_quietly {x : Seg} {samples : List Bool} {s t : State} (h : recoveryFailed x samples s = some t) :
    Quietly s t := by
  unfold recoveryFailed at h
  split at h
  · next r hr =>
    split at h
    · cases h; exact failRecovery_quietly hr
    · cases h
  · cases h

theorem recoveryHoldTimeout_quietly {x : Seg} {s t : State} (h : recoveryHoldTimeout x s = some t) : Quietly s t := by
  unfold recoveryHoldTimeout at h
  split at h
  · next r hr =>
    split at h
    · split at h
      · cases h; exact failRecovery_quietly hr
      · cases h
    · cases h
  · cases h

theorem Poll.advance_keeps (p : Poll) : p.Keeps p.advance := ⟨rfl, fun _ => rfl, id, id⟩

/-- Storing a poll entry that keeps what it refers to is a move. -/
theorem setPoll_quietly {s : State} {i : Fin 24} {p : Poll} (h : (s.poll i).Keeps p) : Quietly s (s.setPoll i p) := by
  refine (Move.polls fun j => ?_).quietly rfl
  rw [vset_get]
  split
  · next hj => rw [hj]; exact h
  · exact Poll.Keeps.refl _

theorem alertCandidate_inSweep {s : State} {x : Seg} {i : Fin 32} (h : alertCandidate s x = some i) :
    (s.seg x).resolver.inSweep = true := by
  unfold alertCandidate at h
  dsimp only at h
  split at h
  · next hc => exact (Bool.and_eq_true_iff.1 hc).1
  · cases h

theorem queueCandidate_eq_some {s : State} {x : Seg} {d : Descriptor} (h : queueCandidate s x = some d) :
    d.state = .queued ∧ ∃ rest, (s.seg x).queue = d :: rest := by
  unfold queueCandidate at h
  split at h
  · next d' rest hq =>
    split at h
    · next hd => cases h; exact ⟨hd, rest, hq⟩
    · cases h
  · cases h

/-- All that the arbiter can pick. -/
theorem pick_cases (s : State) (x : Seg) :
    pick s x = .nothing ∨ (∃ i, alertCandidate s x = some i ∧ pick s x = .alert i) ∨
    (∃ i, bestPoll s x = some i ∧ pick s x = .poll i) ∨ ∃ d, queueCandidate s x = some d ∧ pick s x = .head d := by
  unfold pick
  split
  · next i hi => exact .inr (.inl ⟨i, hi, rfl⟩)
  · split
    · next i d hi hd =>
      split
      · exact .inr (.inr (.inl ⟨i, hi, rfl⟩))
      · exact .inr (.inr (.inr ⟨d, hd, rfl⟩))
    · next i hi _ => exact .inr (.inr (.inl ⟨i, hi, rfl⟩))
    · next d _ hd => exact .inr (.inr (.inr ⟨d, hd, rfl⟩))
    · exact .inl rfl

theorem grantAlert_quietly {s : State} {x : Seg} {i : Fin 32} (hs : (s.seg x).state = .ready)
    (hi : alertCandidate s x = some i) : Quietly s (grantAlert s x i) := by
  rw [grantAlert, startItem, State.updSeg_eq, State.updSeg_eq, State.seg_setSeg_same, State.setSeg_setSeg]
  exact (SegMove.grantAlert (s.target i) i (s.target i).cfg.alertIndex s.tick hs (alertCandidate_inSweep hi)).quietly

theorem grantPoll_quietly {s : State} {x : Seg} {i : Fin 24} (hs : (s.seg x).state = .ready) : Quietly s (grantPoll s x i) := by
  rw [grantPoll, startItem, State.updSeg_eq, State.updSeg_eq, State.seg_setSeg_same, State.setSeg_setSeg]
  have hpoll := setPoll_quietly (s := s) (i := i)
    (p := { (s.poll i).advance with mark := .current, latestGrant := s.grants }) ⟨rfl, fun _ => rfl, id, id⟩
  refine (hpoll.trans (quietly_withGrants _ (s.grants + 1))).trans ?_
  refine SegMove.quietly (.grantPoll (s.target (s.poll i).cfg.target) (s.poll i).cfg.target i s.grants
    (s.poll i).cfg.register (s.poll i).cfg.width s.tick ?_)
  cases x <;> exact hs

theorem grantHead_quietly {s : State} {x : Seg} {d : Descriptor} (hs : (s.seg x).state = .ready)
    (hd : queueCandidate s x = some d) : Quietly s (grantHead s x d) := by
  obtain ⟨hst, rest, hq⟩ := queueCandidate_eq_some hd
  unfold grantHead
  dsimp only
  split
  · rw [State.updSeg_eq, hq]
    exact (SegMove.headRefused hs hq hst).quietly
  · rw [startItem, State.updSeg_eq, State.updSeg_eq, State.seg_setSeg_same, State.setSeg_setSeg, hq]
    exact (SegMove.grantHead (s.target d.target) s.tick hs hq hst).quietly

theorem grantDecision_quietly {x : Seg} {s t : State} (h : grantDecision x s = some t) : Quietly s t := by
  unfold grantDecision at h
  split at h
  case isFalse => cases h
  case isTrue hs =>
    rcases pick_cases s x with hp | ⟨i, hi, hp⟩ | ⟨i, -, hp⟩ | ⟨d, hd, hp⟩ <;> rw [hp] at h <;> cases h
    · exact grantAlert_quietly hs hi
    · exact grantPoll_quietly hs
    · exact grantHead_quietly hs hd

/-! ### Queues -/

/-- Descriptors of one queue that settle where they stand. -/
theorem forall₂_settles_set {q : List Descriptor} {n : Nat} {d d' : Descriptor} (hd : q[n]? = some d)
    (h : d.Settles d') : List.Forall₂ Descriptor.Settles q (q.set n d') := by
  induction q generalizing n with
  | nil => simp at hd
  | cons e rest ih =>
    cases n with
    | zero =>
      simp only [List.getElem?_cons_zero, Option.some.injEq] at hd
      subst hd
      exact .cons h (List.forall₂_same.2 fun e _ => Descriptor.Settles.refl e)
    | succ n =>
      rw [List.getElem?_cons_succ] at hd
      exact .cons (Descriptor.Settles.refl e) (ih hd)

theorem deadlineExpiry_quietly {x : Seg} {pos : Nat} {s t : State} (h : deadlineExpiry x pos s = some t) : Quietly s t := by
  unfold deadlineExpiry at h
  split at h
  · next d hd =>
    split at h
    · next he =>
      cases h
      simp only [Descriptor.expires, Bool.and_eq_true, decide_eq_true_eq] at he
      exact (SegMove.queue (forall₂_settles_set hd ⟨.expired, d.cut, rfl, .inr ⟨he.1.1, .inr rfl⟩⟩)).quietly
    · cases h
  · cases h

theorem headFinished_quietly {x : Seg} {s t : State} (h : headFinished x s = some t) : Quietly s t := by
  unfold headFinished at h
  dsimp only at h
  split at h
  · next r d rest hr hq =>
    split at h
    · next hd => cases h; exact (SegMove.headFinished hr hq hd).quietly
    · cases h
  · cases h

theorem Descriptor.abort_settles (d : Descriptor) : d.Settles d.abort := by
  unfold Descriptor.abort
  split
  · next h => exact ⟨.cancelled, d.cut, rfl, .inr ⟨h, .inl rfl⟩⟩
  · exact ⟨d.state, true, rfl, .inl rfl⟩
  · exact Descriptor.Settles.refl d

theorem cutItem_quietly (s : State) (x : Seg) : Quietly s (cutItem s x) := by
  unfold cutItem
  split
  · next it hit =>
    split
    · split
      · exact closeItem_quietly hit (Item.Keeps.refl it) fun _ => rfl
      · exact (SegMove.item hit (Item.markCut_keeps it)).quietly
    · exact .refl
  · exact .refl

theorem abort_quietly (x : Seg) (s : State) : Quietly s (abort x s) := by
  refine Relation.ReflTransGen.trans ?_ (cutItem_quietly _ x)
  exact (SegMove.queue (List.forall₂_map_right_iff.2 (List.forall₂_same.2 fun d _ => d.abort_settles))).quietly

/-! ### Poll Unit -/

theorem Poll.miss_eq_missed (p : Poll) : p.miss = p.missed := by
  unfold Poll.miss Poll.missed
  dsimp only
  simp only [Bool.and_eq_true, decide_eq_true_eq]
  split <;> simp [Poll.flagIf]

theorem Poll.miss_keeps (p : Poll) : p.Keeps p.miss := by
  unfold Poll.miss
  dsimp only
  split
  · exact ⟨rfl, fun _ => rfl, fun _ => ⟨fun h => by simp [Poll.flagIf] at h, fun _ => rfl⟩,
      fun h => ⟨Nat.min_le_right .., h.2⟩⟩
  · exact ⟨rfl, fun _ => rfl, id, fun h => ⟨Nat.min_le_right .., h.2⟩⟩

/-- A judgement never leads to STALE. -/
theorem judge_ne_stale (c : PollConfig) (start : AlarmState) (v : Int) : judge c start v ≠ .stale := by
  unfold judge
  dsimp only
  repeat' split
  all_goals simp

theorem Poll.goodRead_keeps (p : Poll) (bytes : List Byte) : p.Keeps (p.goodRead bytes) :=
  ⟨rfl, fun _ => rfl, fun _ => ⟨fun _ => rfl, fun h => (judge_ne_stale _ _ _ h).elim⟩, fun h => ⟨Nat.zero_le _, h.2⟩⟩

theorem Poll.report_keeps (p : Poll) (r : PollReport) : p.Keeps (p.report r) := by
  have marked {q : Poll} (h : p.Keeps q) : p.Keeps { q with mark := .none } :=
    ⟨h.enabled, h.target, h.alarm, h.counts⟩
  unfold Poll.report Poll.take
  split_ifs
  · exact marked (p.goodRead_keeps r.bytes)
  · exact marked p.miss_keeps
  · exact marked (Poll.Keeps.refl p)
  · exact Poll.Keeps.refl p

theorem pollOverrun_quietly {i : Fin 24} {s t : State} (h : pollOverrun i s = some t) : Quietly s t := by
  unfold pollOverrun at h
  dsimp only at h
  split at h
  · cases h
    refine Relation.ReflTransGen.trans ?_ (quietly_raise _ _)
    exact setPoll_quietly ⟨rfl, fun _ => rfl, id, fun hc => ⟨hc.1, Nat.min_le_right ..⟩⟩
  · cases h

theorem quarantineMiss_quietly {i : Fin 24} {s t : State} (h : quarantineMiss i s = some t) : Quietly s t := by
  unfold quarantineMiss at h
  dsimp only at h
  split at h
  · cases h
    exact setPoll_quietly ((Poll.advance_keeps _).trans (Poll.miss_keeps _))
  · cases h

theorem pollReadReport_quietly {x : Seg} {s t : State} (h : pollReadReport x s = some t) : Quietly s t := by
  unfold pollReadReport at h
  split at h
  · next r rest hr =>
    cases h
    have hreports := SegMove.quietly (s := s) (x := x) (.reports (s.seg x).tableReports rest (s.seg x).alertResults)
    exact hreports.trans (setPoll_quietly (Poll.report_keeps _ r))
  · cases h

theorem pollWrite_quietly {i : Fin 24} {s : State} (hoff : (s.poll i).enabled = false) : Quietly s (pollWrite i s) := by
  unfold pollWrite
  split
  · exact setPoll_quietly ⟨rfl, fun h => absurd h (by simp [hoff]), id, id⟩
  · exact .refl

/-! ### Target Table -/

theorem Target.released_eases {t : Target} (hv : t.state ≠ .vacant) : t.Eases t.released := by
  have hq : t.released.state ≠ .quarantined := by
    unfold Target.released
    dsimp only
    split <;> simp [*]
  refine ⟨rfl, ?_, rfl, fun _ => ⟨fun h => absurd h hq, fun _ hth => ?_⟩, fun _ => Nat.zero_le _, fun h => absurd h hq⟩
  · unfold Target.released
    dsimp only
    split <;> simp [*]
  · exact Nat.pos_of_ne_zero fun h0 => hth (BitVec.eq_of_toNat_eq h0)

theorem Target.seen_eases (t : Target) (now : Tick) : t.Eases (t.seen now) := by
  unfold Target.seen
  split
  · exact ⟨rfl, Iff.rfl, rfl, id, id, id⟩
  · next h =>
    refine ⟨rfl, by simp [h], rfl, fun hl => ⟨fun hq => (by cases hq), fun _ => hl.2 (by simp [h])⟩, id, fun hq => by cases hq⟩
  · next h =>
    refine ⟨rfl, by simp [h], rfl, fun hl => ⟨fun hq => (by cases hq), fun _ => hl.2 (by simp [h])⟩, id, fun hq => by cases hq⟩
  · exact ⟨rfl, Iff.rfl, rfl, id, id, id⟩

theorem Target.alertRead_eases (t : Target) (o : TxOutcome) (v : Byte) : t.Eases (t.alertRead o v).1 := by
  unfold Target.alertRead
  split <;> exact ⟨rfl, Iff.rfl, rfl, id, id, id⟩

theorem presenceReport_quietly {x : Seg} {s t : State} (h : presenceReport x s = some t) : Quietly s t := by
  unfold presenceReport at h
  split at h
  case h_2 => cases h
  case h_1 r rest hr =>
    split at h
    case h_2 => cases h
    case h_1 =>
      cases h
      have hreports := SegMove.quietly (s := s) (x := x) (.reports rest (s.seg x).pollReports (s.seg x).alertResults)
      split
      · exact hreports
      · refine hreports.trans (target_quietly ?_)
        have hsame : (s.setSeg x { s.seg x with tableReports := rest }).target r.target = s.target r.target := by
          rw [State.target, State.setSeg_targets, State.target]
        rw [hsame]
        exact Target.seen_eases _ s.tick

/-- What a resolver is told and what an outcome does to an entry touch nothing in common. -/
theorem tellResolver_applyOutcome (s : State) (x : Seg) (i : Fin 32) (o : TxOutcome) (awaited : Bool) (r : AlertResult) :
    tellResolver (applyOutcome s i o) x awaited r = applyOutcome (tellResolver s x awaited r) i o := by
  unfold tellResolver
  split
  · have htarget (f : Segment → Segment) : (s.updSeg x f).target i = s.target i := by
      rw [State.target, State.updSeg_targets, State.target]
    unfold applyOutcome
    dsimp only
    rw [htarget]
    split <;> cases x <;> rfl
  · rfl

theorem tellResolver_quietly (s : State) (x : Seg) (awaited : Bool) (r : AlertResult) : Quietly s (tellResolver s x awaited r) := by
  unfold tellResolver
  split
  · exact (SegMove.reports (s.seg x).tableReports (s.seg x).pollReports ((s.seg x).alertResults ++ [r])).quietly
  · exact .refl

theorem outcomeReport_quietly {x : Seg} {s t : State} (h : outcomeReport x s = some t) : Quietly s t := by
  unfold outcomeReport at h
  split at h
  case h_2 => cases h
  case h_1 r rest hr =>
    have hreports := SegMove.quietly (s := s) (x := x) (.reports rest (s.seg x).pollReports (s.seg x).alertResults)
    dsimp only at h
    split at h
    case h_1 => cases h
    case h_2 o _ =>
      cases h
      split
      · exact hreports
      · exact hreports.trans ((Move.outcome r.target o).quietly ((plain_endSweeps _).trans (plain_applyOutcome ..)))
    case h_3 o v awaited _ =>
      split at h <;> cases h
      · exact hreports.trans (tellResolver_quietly _ x awaited .nothing)
      · rw [tellResolver_applyOutcome]
        refine Relation.ReflTransGen.trans ?_ ((Move.outcome r.target o).quietly ((plain_endSweeps _).trans (plain_applyOutcome ..)))
        refine Relation.ReflTransGen.trans ?_ (tellResolver_quietly _ x awaited _)
        have heased := hreports.trans (target_quietly (i := r.target) (Target.alertRead_eases _ o v))
        split
        · exact heased.trans (quietly_raise _ _)
        · exact heased

theorem Item.detach_keeps (it : Item) (i : Fin 32) : it.Keeps (it.detach i) := by
  unfold Item.detach
  split
  · split <;> exact ⟨rfl, id, id, id⟩
  · split <;> exact ⟨rfl, id, id, id⟩
  · exact Item.Keeps.refl it

theorem segDetach_quietly (s : State) (x : Seg) (i : Fin 32) : Quietly s (s.updSeg x (·.detach i)) := by
  rw [State.updSeg_eq, Segment.detach]
  refine quietly_reports (g := { s.seg x with item := (s.seg x).item.map (·.detach i) })
    ((s.seg x).tableReports.map (·.detach i)) _ _ ?_
  cases hit : (s.seg x).item with
  | none =>
    have hsame : { s.seg x with item := none } = s.seg x := by rw [← hit]
    rw [Option.map_none, hsame, State.setSeg_self]
  | some it => exact (SegMove.item hit (Item.detach_keeps it i)).quietly

/-- An edit of an entry detaches it, and may then end a sweep. -/
theorem edit_quietly {s : State} {i : Fin 32} {t : Target} (hl : s.loader.state ≠ .loading) (hrefs : (s.target i).refs = 0)
    (ht : t = .empty ∨ ∃ cfg, t = .written cfg ∧ ∀ j, j ≠ i → (s.target j).state ≠ .vacant →
      (s.target j).cfg.segment = cfg.segment → (s.target j).cfg.address ≠ cfg.address) :
    Quietly s (endSweeps (detach (s.setTarget i t) i)) := by
  have hcomm : detach (s.setTarget i t) i = (detach s i).setTarget i t := rfl
  rw [hcomm]
  have hkept : t.kept = (s.target i).kept := by
    have ht0 : t.refs = 0 := ht.elim (fun h => h ▸ rfl) fun ⟨_, h, _⟩ => h ▸ rfl
    simp [Target.kept, hrefs, ht0]
  refine ((segDetach_quietly s .a i).trans (segDetach_quietly _ .b i)).trans ((Move.edit (s := detach s i) hl hrefs ht).quietly ?_)
  exact (plain_endSweeps _).trans (plain_setTarget (s := detach s i) hkept)

/-- The place the duplicate check compares is that of the staged fields. -/
theorem stagedPlace_eq {ts : Vector Word 6} {c : TargetConfig} (h : stagedTarget ts = some c) :
    stagedPlace ts = (c.segment, c.address) := by
  unfold stagedTarget targetConfig at h
  dsimp only at h
  split at h
  · cases h
    dsimp only
    rw [BitVec.setWidth_setWidth_of_le _ (by decide), BitVec.setWidth_eq]
    rfl
  · cases h

theorem duplicatePlace_eq_false {s : State} {i : Fin 32} {place : Seg × BitVec 7} (h : duplicatePlace s i place = false) :
    ∀ j, j ≠ i → (s.target j).state ≠ .vacant → (s.target j).cfg.segment = place.1 → (s.target j).cfg.address ≠ place.2 := by
  intro j hj hv hseg haddr
  rw [duplicatePlace, List.any_eq_false] at h
  exact h j (List.mem_finRange j) (by simp [hj, hv, hseg, haddr])

/-- The checks of a command that passed, one by one. -/
theorem firstFailing_cons_eq_none {b : Bool} {r : ResultCode} {checks : List (Bool × ResultCode)} :
    firstFailing ((b, r) :: checks) = none ↔ b = false ∧ firstFailing checks = none := by
  rw [firstFailing_cons]
  cases b <;> simp

theorem tgtWrite_quietly {i : Fin 32} {s : State} (hs : HostReady s) (hc : firstFailing (tgtWriteChecks i s) = none) :
    Quietly s (tgtWrite i s) := by
  simp only [tgtWriteChecks, firstFailing_cons_eq_none, decide_eq_false_iff_not, Nat.not_lt, Nat.le_zero] at hc
  obtain ⟨hrefs, -, hdup, -⟩ := hc
  unfold tgtWrite
  split
  · next cfg hcfg =>
    rw [stagedPlace_eq hcfg] at hdup
    exact edit_quietly hs.2 hrefs (.inr ⟨cfg, rfl, duplicatePlace_eq_false hdup⟩)
  · exact .refl

theorem tgtClear_quietly {i : Fin 32} {s : State} (hs : HostReady s) (hrefs : (s.target i).refs = 0) :
    Quietly s (tgtClear i s) := by
  unfold tgtClear
  split
  · exact .refl
  · exact edit_quietly hs.2 hrefs (.inl rfl)

/-! ### Segment commands -/

theorem reschedule_keeps (p : Poll) (now : Tick) : p.Keeps (p.reschedule now) := ⟨rfl, fun _ => rfl, id, id⟩

theorem reschedulePolls_quietly (s : State) (x : Seg) : Quietly s (reschedulePolls s x) := by
  refine (Move.polls fun i => ?_).quietly rfl
  rw [vmap_get]
  split
  · exact reschedule_keeps _ s.tick
  · exact Poll.Keeps.refl _

theorem segEnable_quietly {x : Seg} {s : State} (hs : HostReady s) : Quietly s (segEnable x s) := by
  by_cases hd : (s.seg x).state = .disabled
  case neg => rw [segEnable_of_enabled hd]
  have hcomm : reschedulePolls (s.setSeg x { s.seg x with state := .ready, streak := 0 }) x =
      (reschedulePolls s x).setSeg x { (reschedulePolls s x).seg x with state := .ready, streak := 0 } := by
    cases x <;> rfl
  rw [segEnable_of_disabled hd, hcomm]
  exact (reschedulePolls_quietly s x).trans ((Move.enable (s := reschedulePolls s x) hs.2
    (by cases x <;> exact hd)).quietly ((plain_lookAtLine ..).trans (plain_setSeg ..)))

theorem segDisable_quietly {x : Seg} {s : State} (hc : (s.seg x).refusesDisable = false) : Quietly s (segDisable x s) := by
  unfold segDisable
  split
  · exact .refl
  · next hd =>
    have hfree : ¬ ((s.seg x).refusesDisable = true) := by simp [hc]
    rw [Segment.refusesDisable_iff] at hfree
    have hrest : (s.seg x).state = .ready ∨ (s.seg x).state = .paused ∨ (s.seg x).state = .halted := by
      by_contra hr
      exact hfree ⟨hd, .inl hr⟩
    have hq : (s.seg x).queue = [] := by
      by_contra hq
      exact hfree ⟨hd, .inr hq⟩
    exact (SegMove.disable hrest hq).quietly

theorem recover_quietly {x : Seg} {s : State} (hh : (s.seg x).state = .halted) : Quietly s (recover x s) := by
  have hshape : recover x s = (s.setSeg x { s.seg x with
      state := .recovery, recovery := some (.fresh s.tick (s.seg x).cfg.stretch) }).raise (faultCause x) := by
    cases x <;> rfl
  rw [hshape]
  exact (SegMove.recover s.tick hh).quietly.trans (quietly_raise _ _)

theorem tickAdvance_moves (s : State) : Moves s (tickAdvance s) := by
  refine (moves_withTick s (s.tick + 1)).trans (Move.polls fun i => ?_).moves
  rw [vmap_get]
  exact ⟨rfl, fun _ => rfl, id, id⟩

theorem clearAlarmFlags_quietly (s : State) (base : Nat) (w : Word) :
    Quietly s { s with polls := clearAlarmFlags s.polls base w } := by
  refine (Move.polls fun i => ?_).quietly rfl
  rw [clearAlarmFlags, vfill_get]
  dsimp only
  split
  · exact ⟨rfl, fun _ => rfl, id, id⟩
  · exact Poll.Keeps.refl _

end Sys2Proof.Machine
end

section
/-! SUPPORT. Every step is a chain of moves, and what every move keeps, every step keeps. -/

namespace Sys2Proof.Machine

/-! ### SUBMIT and RETIREMENT -/

/-- A SUBMIT's changes: queue, reference count and holder. -/
theorem submit_eq (s : State) :
    submit s =
      { (s.setSeg (stagedEntry s).cfg.segment { s.seg (stagedEntry s).cfg.segment with
          queue := (s.seg (stagedEntry s).cfg.segment).queue ++
            [acceptedDescriptor s (s.seg (stagedEntry s).cfg.segment).queue] }).setTarget
          (idx32 (stagedDescriptor s.ds).target) { stagedEntry s with refs := (stagedEntry s).refs + 1 } with
        holders := setHolder s.holders (acceptedDescriptor s (s.seg (stagedEntry s).cfg.segment).queue).page
          (some { seg := (stagedEntry s).cfg.segment
                  slot := (acceptedDescriptor s (s.seg (stagedEntry s).cfg.segment).queue).slot }) } := by
  unfold submit stagedEntry
  simp [State.updSeg_eq]

/-- A RETIREMENT's changes: a settled head leaves, its completion enters a ring with room, its reference and page go back. -/
theorem retirement_cases {x : Seg} {s t : State} (h : retirement x s = some t) :
    ∃ d rest c, (s.seg x).queue = d :: rest ∧ d.completion s.tick = some c ∧ s.ring.length < 32 ∧
      t = { (s.setSeg x { s.seg x with queue := rest }).setTarget d.target (s.target d.target).unref with
            ring := s.ring ++ [c], holders := setHolder s.holders d.page none } := by
  unfold retirement at h
  split at h
  · next d rest hq =>
    split at h
    · next c hc =>
      dsimp only at h
      simp only [Option.ite_none_right_eq_some, Option.some.injEq] at h
      obtain ⟨hlen, rfl⟩ := h
      refine ⟨d, rest, c, hq, hc, hlen, ?_⟩
      simp [State.updSeg_eq, State.target]
    · cases h
  · cases h

/-! ### What leaves the plain part -/

theorem plain_segWrite (x : Seg) (s : State) : (segWrite x s).plain = s.plain := by
  unfold segWrite
  split
  · dsimp only
    split
    · exact plain_setSeg ..
    · exact (plain_lookAtLine ..).trans (plain_setSeg ..)
  · rfl

theorem plain_alertLineChange (x : Seg) (low : Bool) (s : State) : (alertLineChange x low s).plain = s.plain := by
  unfold alertLineChange
  dsimp only
  split
  · exact plain_setSeg ..
  · exact (plain_lookAtLine ..).trans (plain_setSeg ..)

theorem plain_holdoffEnd {x : Seg} {s t : State} (h : holdoffEnd x s = some t) : t.plain = s.plain := by
  unfold holdoffEnd at h
  simp only [Option.ite_none_right_eq_some, Option.some.injEq] at h
  obtain ⟨-, rfl⟩ := h
  split
  · exact plain_beginSweep ..
  · exact plain_setSeg ..

theorem plain_alertResult {x : Seg} {s t : State} (h : alertResult x s = some t) : t.plain = s.plain := by
  unfold alertResult at h
  dsimp only at h
  split at h
  · cases h
    exact (plain_endSweep ..).trans (plain_setSeg ..)
  · cases h

/-! ### Every command as a chain of moves -/

theorem chain_of_next {R : State → State → Prop} {s t u : State} (h : (Host.Outcome.next t : Result) = .next u)
    (hm : Relation.ReflTransGen R s t) : Relation.ReflTransGen R s u := by
  cases h
  exact hm

/-- A happening that is always taken is a chain of moves where its effect is one. -/
theorem chain_happen_some {R : State → State → Prop} {s t : State} (h : Relation.ReflTransGen R s t) :
    Relation.ReflTransGen R s (happen s (some t)) := chain_happen fun u hu => by cases hu; exact h

/-- A segment command that passes its checks is the move it makes of the segment. -/
theorem quietly_segCommand {s : State} {x : Seg} {f : Segment → Segment} (h : SegMove (s.seg x) (f (s.seg x))) :
    Quietly s (s.updSeg x f) := h.quietly

/-- The commands and happenings that leave registers, page bytes and ring alone. -/
def Instr.Quiet : Instr → Prop
  | .submit .. | .pollEnable .. | .pollDisable .. | .pop .. | .segRead .. | .tgtRead .. | .pollRead .. | .softReset ..
  | .reload .. | .pagePtrWrite .. | .pageDataRead .. | .pageDataWrite .. | .tickLoRead ..
  | .evMaskWrite .. | .evCtrlWrite .. | .registerWrite .. | .powerOnReset ..
  | .tickAdvance .. | .pageStore .. | .retirement .. | .loaderReadReport .. => False
  | _ => True

/-- Every quiet command and happening is a chain of moves that leave the plain part. -/
theorem exec_quietly {c : Instr} {s u : State} (hc : Instr.Quiet c) (h : exec c s = .next u) : Quietly s u := by
  cases c with
  | submit | pollEnable | pollDisable | pop | segRead | tgtRead | pollRead | softReset | reload | pagePtrWrite
  | pageDataRead | pageDataWrite | tickLoRead | evMaskWrite | evCtrlWrite | registerWrite
  | powerOnReset | tickAdvance | pageStore | retirement | loaderReadReport => exact hc.elim
  | abort arg seen => exact chain_of_next h ((takeBefore_quietly seen s).trans (quietly_command fun _ _ _ => abort_quietly _ _))
  | pause arg =>
    refine chain_of_next h (quietly_command fun _ hc w => quietly_segCommand (.pause ?_))
    rw [State.seg_withCmd]
    simp only [firstFailing_cons_eq_none, decide_eq_false_iff_not] at hc
    exact hc.2.1
  | resume arg => exact chain_of_next h (quietly_command fun _ _ w => quietly_segCommand .resume)
  | segEnable arg => exact chain_of_next h (quietly_command fun hs _ _ => segEnable_quietly hs)
  | segDisable arg =>
    refine chain_of_next h (quietly_command fun _ hc w => segDisable_quietly ?_)
    rw [State.seg_withCmd]
    exact (firstFailing_cons_eq_none.1 hc).1
  | segWrite arg =>
    refine chain_of_next h (quietly_command fun _ hc w => ?_)
    simp only [segWriteChecks, firstFailing_cons_eq_none, Option.isNone_eq_false_iff] at hc
    obtain ⟨cfg, hcfg⟩ := Option.isSome_iff_exists.1 hc.2.1
    exact (Move.segWrite (s := { s with cmd := w }) hcfg).quietly (plain_segWrite ..)
  | recover arg =>
    refine chain_of_next h (quietly_command fun _ hc w => recover_quietly ?_)
    rw [State.seg_withCmd]
    simpa [firstFailing_cons_eq_none] using hc
  | tgtWrite arg => exact chain_of_next h (quietly_command fun hs hc w => tgtWrite_quietly (s := { s with cmd := w }) hs hc)
  | tgtClear arg =>
    refine chain_of_next h (quietly_command fun hs hc w => tgtClear_quietly (s := { s with cmd := w }) hs ?_)
    have hrefs : (s.target (idx32 arg.toNat)).refs = 0 := by simpa [firstFailing_cons_eq_none] using hc
    exact hrefs
  | tgtRelease arg =>
    refine chain_of_next h (quietly_command fun _ hc w => target_quietly (Target.released_eases ?_))
    have hv : (s.target (idx32 arg.toNat)).state ≠ .vacant := by simpa [firstFailing_cons_eq_none] using hc
    exact hv
  | ackAlert arg =>
    refine chain_of_next h (quietly_command fun _ _ w => target_quietly ?_)
    exact ⟨rfl, Iff.rfl, rfl, id, id, id⟩
  | pollWrite arg =>
    refine chain_of_next h (quietly_command fun _ hc w => pollWrite_quietly (s := { s with cmd := w }) ?_)
    exact (firstFailing_cons_eq_none.1 hc).1
  | badCommand w =>
    simp only [exec, execBadCommand] at h
    split at h
    · refine chain_of_next h ?_
      unfold badCommand
      split
      · exact .refl
      · exact (quietly_withCmd s w).trans (quietly_refuse _ _ _)
    · cases h
  | eventRead =>
    refine chain_of_next h (chain_happen_some ?_)
    dsimp only
    split
    · exact quietly_withLastRead s _
    · refine (quietly_withLastRead s (eventWord s)).trans ?_
      exact quietly_clearLatched { s with lastRead := eventWord s } (eventWord s)
  | eventWrite w =>
    refine chain_of_next h (chain_happen_some ?_)
    split
    · exact quietly_clearLatched s w
    · exact .refl
  | alarmFlagsWrite hi w => exact chain_of_next h (chain_happen_some (clearAlarmFlags_quietly s _ w))
  | alertLineChange x low => exact chain_of_next h ((Move.alertLine x low).quietly (plain_alertLineChange ..))
  | deadlineExpiry x pos => exact chain_of_next h (chain_happen fun _ ht => deadlineExpiry_quietly ht)
  | pollDue i => exact chain_of_next h (chain_happen_some .refl)
  | pollOverrun i => exact chain_of_next h (chain_happen fun _ ht => pollOverrun_quietly ht)
  | quarantineMiss i => exact chain_of_next h (chain_happen fun _ ht => quarantineMiss_quietly ht)
  | holdoffEnd x => exact chain_of_next h (chain_happen fun _ ht => (Move.holdoffEnd ht).quietly (plain_holdoffEnd ht))
  | grantDecision x => exact chain_of_next h (chain_happen fun _ ht => grantDecision_quietly ht)
  | busFreeTimeout x => exact chain_of_next h (chain_happen fun _ ht => busFreeTimeout_quietly ht)
  | stretchTimeout x => exact chain_of_next h (chain_happen fun _ ht => stretchTimeout_quietly ht)
  | dataMismatch x => exact chain_of_next h (chain_happen fun _ ht => dataMismatch_quietly ht)
  | byteEnd x ack byte => exact chain_of_next h (chain_happen fun _ ht => byteEnd_quietly ht)
  | presenceReport x => exact chain_of_next h (chain_happen fun _ ht => presenceReport_quietly ht)
  | retryGapBegin x => exact chain_of_next h (chain_happen fun _ ht => retryGapBegin_quietly ht)
  | retryGapEnd x => exact chain_of_next h (chain_happen fun _ ht => retryGapEnd_quietly ht)
  | transactionEnd x => exact chain_of_next h (chain_happen fun _ ht => transactionEnd_quietly ht)
  | headFinished x => exact chain_of_next h (chain_happen fun _ ht => headFinished_quietly ht)
  | outcomeReport x => exact chain_of_next h (chain_happen fun _ ht => outcomeReport_quietly ht)
  | pollReadReport x => exact chain_of_next h (chain_happen fun _ ht => pollReadReport_quietly ht)
  | alertResult x => exact chain_of_next h (chain_happen fun _ ht => (Move.alertResult ht).quietly (plain_alertResult ht))
  | recoverySucceeded x samples => exact chain_of_next h (chain_happen fun _ ht => recoverySucceeded_quietly ht)
  | recoveryFailed x samples => exact chain_of_next h (chain_happen fun _ ht => recoveryFailed_quietly ht)
  | recoveryHoldTimeout x => exact chain_of_next h (chain_happen fun _ ht => recoveryHoldTimeout_quietly ht)
  | rstnLow => exact chain_of_next h (Move.rstnLow.quietly rfl)

/-- Every command and happening is a chain of moves. -/
theorem exec_moves {c : Instr} {s u : State} (h : exec c s = .next u) : Moves s u := by
  cases c with
  | pop arg => exact chain_of_next h (moves_command fun _ _ _ => Move.pop.moves)
  | segRead arg => exact chain_of_next h (moves_command fun _ _ _ => moves_ss (segImage_clean _))
  | tgtRead arg => exact chain_of_next h (moves_command fun _ _ _ => moves_ts (targetImage_clean _))
  | pollRead arg => exact chain_of_next h (moves_command fun _ _ _ => moves_ps (pollImage_clean _))
  | submit arg =>
    exact chain_of_next h (moves_command fun hs hc w => (Move.submit (s := { s with cmd := w }) hs.2 hc).moves)
  | pollEnable arg =>
    refine chain_of_next h (moves_command fun hs hc w => ?_)
    by_cases hon : (s.poll (idx24 arg.toNat)).enabled = true
    · rw [pollEnable_of_enabled (s := { s with cmd := w }) hon]
    · have hoff := Bool.eq_false_iff.2 hon
      simp only [pollEnableChecks, firstFailing_cons_eq_none, hoff, Bool.not_false, Bool.true_and,
        decide_eq_false_iff_not] at hc
      exact (Move.pollEnable (s := { s with cmd := w }) hs.2 hoff hc.1).moves
  | pollDisable arg =>
    refine chain_of_next h (moves_command fun _ _ w => ?_)
    by_cases hon : (s.poll (idx24 arg.toNat)).enabled = true
    · exact (Move.pollDisable (s := { s with cmd := w }) hon).moves
    · rw [pollDisable_of_disabled (s := { s with cmd := w }) (Bool.eq_false_iff.2 hon)]
  | softReset arg => exact chain_of_next h (moves_command fun hs _ w => (Move.softReset (s := { s with cmd := w }) hs).moves)
  | reload arg => exact chain_of_next h (moves_command fun hs _ w => (Move.reload (s := { s with cmd := w }) hs).moves)
  | pagePtrWrite w =>
    exact chain_of_next h (chain_happen_some (moves_port s s.pending s.wires s.cmd s.cmdres s.lastRead s.capture
      (field w 8 5) (field w 0 6) s.tick s.grants))
  | pageDataRead =>
    refine chain_of_next h (chain_happen_some ?_)
    have hread := (quietly_withLastRead s (pageData s)).moves.trans (moves_advancePointer _)
    dsimp only
    split
    · exact hread.trans (quietly_raise _ _).moves
    · exact hread
  | pageDataWrite w =>
    refine chain_of_next h (chain_happen_some ?_)
    split
    · exact (moves_advancePointer s).trans (quietly_raise _ _).moves
    · exact (Move.mem (loByte w) (pageAddr_lt _ _)).moves.trans (moves_advancePointer _)
  | tickLoRead =>
    exact chain_of_next h (chain_happen_some (moves_port s s.pending s.wires s.cmd s.cmdres (stampOf s.tick)
      (s.tick.extractLsb' 16 16) s.ptrPage s.ptrOffset s.tick s.grants))
  | evMaskWrite w =>
    refine chain_of_next h (chain_happen_some (Move.events (mode := s.clearMode) (watermark := s.watermark) ?_ id).moves)
    exact fun _ => by rw [BitVec.and_assoc, BitVec.and_not_self]; exact BitVec.and_zero
  | evCtrlWrite w =>
    refine chain_of_next h (chain_happen_some ?_)
    split
    · next hw =>
      simp only [Bool.and_eq_true, decide_eq_true_eq] at hw
      exact (Move.events (mask := s.mask) id fun _ => hw).moves
    · exact .refl
  | registerWrite addr w =>
    simp only [exec, execRegisterWrite] at h
    split at h
    · exact chain_of_next h (chain_happen_some (writePlain_moves s addr w))
    · cases h
  | powerOnReset cfgen cfgadr fsel => exact chain_of_next h (Move.powerOnReset cfgen cfgadr fsel).moves
  | tickAdvance => exact chain_of_next h (chain_happen_some ((takeMillisecond_moves s).trans (tickAdvance_moves _)))
  | pageStore x byte => exact chain_of_next h (chain_happen fun _ ht => pageStore_moves ht)
  | retirement x => exact chain_of_next h (chain_happen fun _ ht => (Move.retirement ht).moves)
  | loaderReadReport => exact chain_of_next h (chain_happen fun _ ht => (Move.loaderReadReport ht).moves)
  | _ => exact (exec_quietly (by trivial) h).moves

/-- Every step is a chain of moves. -/
theorem step_moves {s t : State} (h : step s = .next t) : Moves s t := by
  unfold step at h
  split at h
  · cases h; exact .refl
  · next c rest _ =>
    exact (moves_port s rest s.wires s.cmd s.cmdres s.lastRead s.capture s.ptrPage s.ptrOffset s.tick s.grants).trans
      (exec_moves h)

/-- What every move keeps, every step keeps. -/
theorem step_keeps {P : State → Prop} (keep : ∀ s t, Move s t → P s → P t) {s t : State} (h : step s = .next t)
    (hp : P s) : P t := (step_moves h).keeps keep hp

end Sys2Proof.Machine
end

section
/-! SUPPORT. The bare part of the state, on which the laws of entries, queues and work rest, and what a move does to it. -/

namespace Sys2Proof.Machine

/-! ### The bare part -/

/-- A segment without its configuration, resolver, pin and waiting reports to the tables. -/
def Segment.bare (g : Segment) : Segment :=
  { g with cfg := .powerOn, resolver := .atRest, alertLow := false, tableReports := [], pollReports := [], alertResults := [] }

/-- The state without registers, page bytes and flags, its segments bare. -/
def State.bare (s : State) : State :=
  { State.reset with
    rstnLow := s.rstnLow, targets := s.targets, holders := s.holders, segA := s.segA.bare, segB := s.segB.bare
    ring := s.ring, polls := s.polls, loader := s.loader }

theorem State.bare_seg (s : State) (x : Seg) : s.bare.seg x = (s.seg x).bare := by cases x <;> rfl

@[simp] theorem State.bare_endSweep (x : Seg) (s : State) : (endSweep x s).bare = s.bare := by
  obtain ⟨r, l, h⟩ := endSweep_shape x s
  rw [h]
  cases x <;> rfl

@[simp] theorem State.bare_endSweeps (s : State) : (endSweeps s).bare = s.bare := by simp [endSweeps]

@[simp] theorem State.bare_lookAtLine (x : Seg) (s : State) : (lookAtLine x s).bare = s.bare := by
  obtain ⟨r, l, h⟩ := lookAtLine_shape x s
  rw [h]
  cases x <;> rfl

@[simp] theorem State.bare_beginSweep (x : Seg) (s : State) : (beginSweep x s).bare = s.bare := by
  obtain ⟨r, l, h⟩ := beginSweep_shape x s
  rw [h]
  cases x <;> rfl

@[simp] theorem State.bare_raise (s : State) (c : Latched) : (s.raise c).bare = s.bare := rfl

theorem State.bare_setSeg {s : State} {x : Seg} {g : Segment} (h : g.bare = (s.seg x).bare) : (s.setSeg x g).bare = s.bare := by
  cases x
  · exact congrArg (fun b => { s.bare with segA := b }) h
  · exact congrArg (fun b => { s.bare with segB := b }) h

theorem Segment.configured_bare (g : Segment) (c : SegConfig) : (g.configured c).bare = g.bare := by
  unfold Segment.configured
  dsimp only
  split <;> rfl

theorem segWrite_bare (x : Seg) (s : State) : (segWrite x s).bare = s.bare := by
  have hset (c : SegConfig) : (s.updSeg x (·.configured c)).bare = s.bare := State.bare_setSeg (Segment.configured_bare _ c)
  unfold segWrite
  split
  · dsimp only
    split
    · exact hset _
    · rw [State.bare_lookAtLine, hset]
  · rfl

theorem alertLineChange_bare (x : Seg) (low : Bool) (s : State) : (alertLineChange x low s).bare = s.bare := by
  have hset : (s.updSeg x fun g => { g with alertLow := low }).bare = s.bare := State.bare_setSeg rfl
  unfold alertLineChange
  dsimp only
  split
  · exact hset
  · rw [State.bare_lookAtLine, hset]

theorem holdoffEnd_bare {x : Seg} {s t : State} (h : holdoffEnd x s = some t) : t.bare = s.bare := by
  unfold holdoffEnd at h
  simp only [Option.ite_none_right_eq_some, Option.some.injEq] at h
  obtain ⟨-, rfl⟩ := h
  split
  · exact State.bare_beginSweep x s
  · exact State.bare_setSeg rfl

theorem alertResult_bare {x : Seg} {s t : State} (h : alertResult x s = some t) : t.bare = s.bare := by
  unfold alertResult at h
  dsimp only at h
  split at h
  · cases h
    rw [State.bare_endSweep]
    exact State.bare_setSeg rfl
  · cases h

theorem softReset_bare (s : State) : (softReset s).bare = (clearWork s).bare := by simp [softReset]

/-! ### The commit without the resolvers' looks -/

/-- The commit of a good list as far as tables, segments and loader go. -/
def commitTables (s : State) (l : Loader) : State :=
  let polls := vfill fun i => committedPoll l.shadow s.tick (s.poll i) i
  { s with
    polls := polls, targets := vfill fun i => committedTarget l.shadow polls (s.target i) i
    segA := s.segA.commit l.shadow.segA, segB := s.segB.commit l.shadow.segB
    loader := { l with state := .done, reason := .none, bytes := [], shadow := .empty } }

/-- The event settings of a commit. -/
def commitSettings (s : State) (l : Loader) : State := (commitEvents (commitTables s l) l.shadow.events).raise .loaded

theorem commit_eq (s : State) (l : Loader) :
    commit s l = lookAtLine .b (lookAtLine .a (commitSettings s l)) := by
  unfold commit commitSettings commitTables commitEvents
  cases l.shadow.events <;> rfl

theorem commit_bare (s : State) (l : Loader) : (commit s l).bare = (commitTables s l).bare := by
  rw [commit_eq, State.bare_lookAtLine, State.bare_lookAtLine]
  unfold commitSettings commitEvents
  cases l.shadow.events <;> rfl

/-! ### The walk along the list -/

/-- A loader that has taken records one after the other. -/
inductive Walked (l : Loader) : Loader → Prop
  | start : Walked l l
  | record {k : Loader} {code : Byte} {body : List Byte} {sh : Shadow} {offset : Nat} (h : Walked l k)
      (hc : checkBody k.shadow code body = .ok sh) (ho : offset ≤ 4095) :
      Walked l { k with shadow := sh, good := k.good + 1, offset := offset }

theorem Walked.trans {l k m : Loader} (h : Walked l k) (h' : Walked k m) : Walked l m := by
  induction h' with
  | start => exact h
  | record _ hc ho ih => exact ih.record hc ho

/-- The loader a walk leaves. -/
def Walk.loader : Walk → Loader
  | .more l => l
  | .failed _ l => l
  | .good l => l

theorem walk_walked (fuel : Nat) : ∀ l : Loader, Walked l (walk fuel l).loader := by
  induction fuel with
  | zero => exact fun l => .start
  | succ fuel ih =>
    intro l
    rw [walk]
    split
    · exact .start
    split
    · exact .start
    split
    · exact .start
    next len _ =>
    split
    · exact .start
    split
    · exact .start
    split
    · split
      · exact .start
      · split <;> exact .start
    split
    · exact .start
    next hlen =>
    split
    · exact .start
    split
    · exact .start
    next sh hc => exact (Walked.start.record hc (by omega)).trans (ih _)

/-- The fields of a loader that a walk leaves. -/
theorem Walked.frame {l k : Loader} (h : Walked l k) : k.state = l.state ∧ k.report = l.report ∧ k.bytes = l.bytes := by
  induction h with
  | start => exact ⟨rfl, rfl, rfl⟩
  | record _ _ _ ih => exact ih

/-! ### Moves of the bare part -/

/-- A change of a target entry that leaves its place and references. -/
structure Target.Stays (t t' : Target) : Prop where
  cfg : t'.cfg = t.cfg
  vacant : t'.state = .vacant ↔ t.state = .vacant
  refs : t'.refs = t.refs
  failures : t.FailuresLawful → t'.FailuresLawful
  range : t.failures ≤ 15 → t'.failures ≤ 15

theorem Target.Eases.stays {t t' : Target} (h : t.Eases t') : t.Stays t' := ⟨h.cfg, h.vacant, h.refs, h.failures, h.range⟩

theorem TgtState.afterOutcome_eq_vacant {st : TgtState} {o : TxOutcome} : st.afterOutcome o = .vacant ↔ st = .vacant := by
  cases st <;> cases o <;> decide

theorem TgtState.afterOutcome_ne_quarantined {st : TgtState} {o : TxOutcome} (h : st ≠ .quarantined) :
    st.afterOutcome o ≠ .quarantined := by
  revert h
  cases st <;> cases o <;> decide

/-- Everything an outcome does to an entry. -/
theorem Target.judged_stays (t : Target) (o : TxOutcome) : t.Stays (t.judged o).1 := by
  have same : t.Stays t := ⟨rfl, Iff.rfl, rfl, id, id⟩
  unfold Target.judged
  split
  · exact same
  · exact same
  next hv hq =>
  split
  · dsimp only
    split
    · next h =>
      simp only [Bool.and_eq_true, decide_eq_true_eq] at h
      exact ⟨rfl, ⟨nofun, fun e => (hv e).elim⟩, rfl, fun _ => ⟨fun _ => h, fun hne => absurd rfl hne⟩, fun _ => Nat.min_le_right ..⟩
    · next h =>
      simp only [Bool.and_eq_true, decide_eq_true_eq, not_and] at h
      refine ⟨rfl, TgtState.afterOutcome_eq_vacant, rfl, fun hf => ⟨fun hst => ?_, fun _ ht => ?_⟩, fun _ => Nat.min_le_right ..⟩
      · exact absurd hst (TgtState.afterOutcome_ne_quarantined hq)
      · have hlt := hf.2 hq ht
        have hne := h ht
        dsimp only at hne ⊢
        have := t.cfg.threshold.isLt
        omega
  · split
    · refine ⟨rfl, Iff.rfl, rfl, fun _ => ⟨fun hst => absurd hst hq, fun _ ht => ?_⟩, fun _ => Nat.zero_le _⟩
      exact Nat.pos_of_ne_zero fun h0 => ht (BitVec.eq_of_toNat_eq h0)
    · exact same

theorem applyOutcome_bare (s : State) (i : Fin 32) (o : TxOutcome) :
    (applyOutcome s i o).bare = (s.setTarget i ((s.target i).judged o).1).bare := by
  unfold applyOutcome
  dsimp only
  split <;> rfl

/-- All that a move does to the bare part. -/
inductive CoreMove (s : State) : State → Prop
  | same : CoreMove s s
  | pop : CoreMove s { s with ring := s.ring.tail }
  | target {i : Fin 32} {t : Target} (h : (s.target i).Stays t) : CoreMove s (s.setTarget i t)
  | edit {i : Fin 32} {t : Target} (hl : s.loader.state ≠ .loading) (hrefs : (s.target i).refs = 0)
      (ht : t = .empty ∨ ∃ cfg, t = .written cfg ∧ ∀ j, j ≠ i → (s.target j).state ≠ .vacant →
        (s.target j).cfg.segment = cfg.segment → (s.target j).cfg.address ≠ cfg.address) :
      CoreMove s (s.setTarget i t)
  | polls {v : Vector Poll 24} (h : ∀ i, (s.poll i).Keeps (v.get i)) : CoreMove s { s with polls := v }
  | pollEnable {i : Fin 24} (hl : s.loader.state ≠ .loading) (hoff : (s.poll i).enabled = false)
      (hv : (s.target (s.poll i).cfg.target).state ≠ .vacant) : CoreMove s (pollEnable i s)
  | pollDisable {i : Fin 24} (hon : (s.poll i).enabled = true) : CoreMove s (pollDisable i s)
  | submit (hl : s.loader.state ≠ .loading) (hc : firstFailing (submitChecks s) = none) : CoreMove s (submit s)
  | retirement {x : Seg} {t : State} (h : retirement x s = some t) : CoreMove s t
  | seg {x : Seg} {g : Segment} (h : SegMove (s.seg x) g) : CoreMove s (s.setSeg x g)
  | loaderEnd {x : Seg} {it : Item} (r : LoaderReport) (hit : (s.seg x).item = some it) (hs : it.supplier = .loader) :
      CoreMove s { s.setSeg x { s.seg x with item := none } with loader := { s.loader with report := some r } }
  | enable {x : Seg} (hl : s.loader.state ≠ .loading) (hd : (s.seg x).state = .disabled) :
      CoreMove s (s.setSeg x { s.seg x with state := .ready, streak := 0 })
  | clearWork (hs : HostReady s) : CoreMove s (clearWork s)
  | reload (hs : HostReady s) : CoreMove s (reload s)
  | rstnLow : CoreMove s (rstnLow s)
  | powerOnReset (cfgen : Bool) (cfgadr fsel : BitVec 2) : CoreMove s (powerOnReset cfgen cfgadr fsel s)
  | piece {r : LoaderReport} {bytes : List Byte} {l : Loader} (hr : s.loader.report = some r) (hl : s.loader.state = .loading)
      (hw : Walked { s.loader with report := none, bytes := bytes } l) : CoreMove s (beginPiece { s with loader := l })
  | fail {r : LoaderReport} {bytes : List Byte} {l : Loader} (reason : LoadReason) (hr : s.loader.report = some r)
      (hl : s.loader.state = .loading) (hw : Walked { s.loader with report := none, bytes := bytes } l) :
      CoreMove s { s with loader := { l with state := .failed, reason := reason, bytes := [], shadow := .empty } }
  | commit {r : LoaderReport} {bytes : List Byte} {l : Loader} (hr : s.loader.report = some r) (hl : s.loader.state = .loading)
      (hw : Walked { s.loader with report := none, bytes := bytes } l) : CoreMove s (commitTables s l)

/-- All that taking the report of a loader read does. -/
theorem loaderReadReport_cases {s t : State} (h : loaderReadReport s = some t) :
    ∃ r bytes l, s.loader.report = some r ∧ s.loader.state = .loading ∧
      Walked { s.loader with report := none, bytes := bytes } l ∧
      (t = beginPiece { s with loader := l } ∨ (∃ reason, t = loadFail s reason l) ∨ t = Machine.commit s l) := by
  unfold loaderReadReport at h
  dsimp only at h
  split at h
  · next r hr =>
    simp only [Option.ite_none_right_eq_some] at h
    obtain ⟨hl, h⟩ := h
    split at h
    · have hw := walk_walked ((s.loader.bytes ++ r.bytes).length + 1)
        { s.loader with report := none, bytes := s.loader.bytes ++ r.bytes }
      refine ⟨r, s.loader.bytes ++ r.bytes, _, hr, hl, hw, ?_⟩
      split at h
      · next hwalk => rw [hwalk]; exact .inl (Option.some.inj h).symm
      · next hwalk => rw [hwalk]; exact .inr (.inl ⟨_, (Option.some.inj h).symm⟩)
      · next hwalk => rw [hwalk]; exact .inr (.inr (Option.some.inj h).symm)
    · exact ⟨r, s.loader.bytes, _, hr, hl, .start, .inr (.inl ⟨_, (Option.some.inj h).symm⟩)⟩
  · cases h

/-- Every move is one of the bare part, as far as the bare part goes. -/
theorem Move.core {s t : State} (h : Move s t) : ∃ u, CoreMove s u ∧ t.bare = u.bare := by
  cases h with
  | port | latch | stage | events | mem => exact ⟨s, .same, rfl⟩
  | pop => exact ⟨_, .pop, rfl⟩
  | target h => exact ⟨_, .target h.stays, rfl⟩
  | outcome i o => exact ⟨_, .target (Target.judged_stays _ o), by rw [State.bare_endSweeps, applyOutcome_bare]⟩
  | edit hl hrefs ht => exact ⟨_, .edit hl hrefs ht, State.bare_endSweeps _⟩
  | polls h => exact ⟨_, .polls h, rfl⟩
  | pollEnable hl hoff hv => exact ⟨_, .pollEnable hl hoff hv, rfl⟩
  | pollDisable hon => exact ⟨_, .pollDisable hon, rfl⟩
  | submit hl hc => exact ⟨_, .submit hl hc, rfl⟩
  | retirement h => exact ⟨_, .retirement h, rfl⟩
  | seg h => exact ⟨_, .seg h, rfl⟩
  | loaderEnd r hit hs => exact ⟨_, .loaderEnd r hit hs, rfl⟩
  | enable hl hd => exact ⟨_, .enable hl hd, State.bare_lookAtLine _ _⟩
  | segWrite hs => exact ⟨s, .same, segWrite_bare _ s⟩
  | alertLine x low => exact ⟨s, .same, alertLineChange_bare x low s⟩
  | holdoffEnd h => exact ⟨s, .same, holdoffEnd_bare h⟩
  | alertResult h => exact ⟨s, .same, alertResult_bare h⟩
  | softReset hs => exact ⟨_, .clearWork hs, softReset_bare s⟩
  | reload hs => exact ⟨_, .reload hs, rfl⟩
  | rstnLow => exact ⟨_, .rstnLow, rfl⟩
  | powerOnReset cfgen cfgadr fsel => exact ⟨_, .powerOnReset cfgen cfgadr fsel, rfl⟩
  | loaderReadReport h =>
    obtain ⟨r, bytes, l, hr, hl, hw, rfl | ⟨reason, rfl⟩ | rfl⟩ := loaderReadReport_cases h
    · exact ⟨_, .piece hr hl hw, rfl⟩
    · exact ⟨_, .fail reason hr hl hw, rfl⟩
    · exact ⟨_, .commit hr hl hw, commit_bare s l⟩

/-- What rests on the bare part and every move of it keeps, every move keeps. -/
theorem Move.keeps_of_core {P : State → Prop} (bare : ∀ s, P s.bare ↔ P s) (keep : ∀ s t, CoreMove s t → P s → P t)
    (s t : State) (h : Move s t) (hp : P s) : P t := by
  obtain ⟨u, hu, htu⟩ := h.core
  rw [← bare, htu, bare]
  exact keep s u hu hp

end Sys2Proof.Machine
end

section
/-! SUPPORT. The laws of single entries: failure counts (R7) and alarm states (R151), and the form of the page bytes. -/

namespace Sys2Proof.Machine

/-! ### Tables under updates of other parts -/

@[simp] theorem State.target_setSeg (s : State) (x : Seg) (g : Segment) (i : Fin 32) :
    (s.setSeg x g).target i = s.target i := by cases x <;> rfl

@[simp] theorem State.poll_setSeg (s : State) (x : Seg) (g : Segment) (i : Fin 24) :
    (s.setSeg x g).poll i = s.poll i := by cases x <;> rfl

@[simp] theorem State.poll_setTarget (s : State) (j : Fin 32) (t : Target) (i : Fin 24) :
    (s.setTarget j t).poll i = s.poll i := rfl

@[simp] theorem State.target_setPoll (s : State) (j : Fin 24) (p : Poll) (i : Fin 32) :
    (s.setPoll j p).target i = s.target i := rfl

theorem powerOnReset_targets (cfgen : Bool) (cfgadr fsel : BitVec 2) (s : State) :
    (powerOnReset cfgen cfgadr fsel s).targets = Vector.replicate 32 Target.empty := by cases cfgen <;> rfl

theorem powerOnReset_polls (cfgen : Bool) (cfgadr fsel : BitVec 2) (s : State) :
    (powerOnReset cfgen cfgadr fsel s).polls = Vector.replicate 24 Poll.empty := by cases cfgen <;> rfl

/-! ### Target entries one by one -/

theorem target_keeps_of_set {P : Target → Prop} {s : State} {i : Fin 32} {t : Target} (hp : ∀ i, P (s.target i)) (ht : P t)
    (j : Fin 32) : P ((s.setTarget i t).target j) := by
  rw [target_setTarget]
  split
  · exact ht
  · exact hp j

/-- A law of single target entries is kept where the named changes of an entry keep it. -/
theorem CoreMove.targets_keep {P : Target → Prop} (stays : ∀ t t', t.Stays t' → P t → P t')
    (refs : ∀ t n, P t → P { t with refs := n }) (clear : ∀ t, t.failures = 0 → t.state ≠ .quarantined → P t)
    {s t : State} (h : CoreMove s t) (hp : ∀ i, P (s.target i)) : ∀ i, P (t.target i) := by
  have empty : P .empty := clear _ rfl nofun
  have written (cfg : TargetConfig) : P (.written cfg) := clear _ rfl nofun
  cases h with
  | same | pop | polls | rstnLow | fail => exact hp
  | seg | loaderEnd | enable | piece =>
    intro i
    have := hp i
    simpa [beginPiece, State.updSeg_eq, State.target] using this
  | target h => exact target_keeps_of_set hp (stays _ _ h (hp _))
  | edit hl hrefs ht =>
    refine target_keeps_of_set hp ?_
    obtain rfl | ⟨cfg, rfl, -⟩ := ht
    · exact empty
    · exact written cfg
  | pollEnable hl hoff hv =>
    rw [pollEnable_of_disabled hoff]
    exact target_keeps_of_set hp (refs _ _ (hp _))
  | pollDisable hon =>
    rw [pollDisable_of_enabled hon]
    exact target_keeps_of_set hp (refs _ _ (hp _))
  | submit hl hc =>
    rw [submit_eq]
    refine target_keeps_of_set (fun i => ?_) (refs _ _ (hp _))
    rw [State.target_setSeg]
    exact hp i
  | retirement h =>
    obtain ⟨d, rest, c, -, -, -, rfl⟩ := retirement_cases h
    refine target_keeps_of_set (fun i => ?_) (refs _ _ (hp _))
    rw [State.target_setSeg]
    exact hp i
  | clearWork hs =>
    intro i
    show P ((vfill _).get i)
    rw [vfill_get]
    refine clear _ rfl ?_
    simp only [Target.softReset]
    split <;> exact nofun
  | reload hs =>
    intro i
    show P ((Vector.replicate 32 Target.empty).get i)
    simpa [Vector.get_eq_getElem] using empty
  | powerOnReset cfgen cfgadr fsel =>
    intro i
    rw [State.target, powerOnReset_targets]
    simpa [Vector.get_eq_getElem] using empty
  | commit hr hl hw =>
    intro i
    show P ((vfill _).get i)
    rw [vfill_get]
    refine refs _ _ ?_
    split
    · exact written _
    · exact hp i

/-! ### Poll entries one by one -/

/-- A law of single poll entries is kept where the named changes of an entry keep it. -/
theorem CoreMove.polls_keep {P : Poll → Prop} (keeps : ∀ p p', p.Keeps p' → P p → P p')
    (same : ∀ p p' : Poll, p'.valid = p.valid → p'.alarm = p.alarm → p'.misses = p.misses → p'.overruns = p.overruns → P p → P p')
    (fresh : ∀ p : Poll, p.valid = false → p.alarm = .normal → p.misses = 0 → p.overruns = 0 → P p)
    {s t : State} (h : CoreMove s t) (hp : ∀ i, P (s.poll i)) : ∀ i, P (t.poll i) := by
  have empty : P .empty := fresh _ rfl rfl rfl rfl
  cases h with
  | same | pop | target | edit | rstnLow | fail => exact hp
  | seg | loaderEnd | enable | piece =>
    intro i
    have := hp i
    simpa [beginPiece, State.updSeg_eq, State.poll] using this
  | polls h => exact fun i => keeps _ _ (h i) (hp i)
  | pollEnable hl hoff hv =>
    rw [pollEnable_of_disabled hoff]
    intro j
    rw [poll_setPoll]
    split
    · exact fresh _ rfl rfl rfl rfl
    · exact hp j
  | pollDisable hon =>
    rw [pollDisable_of_enabled hon]
    intro j
    rw [poll_setPoll]
    split
    · exact same (s.poll _) _ rfl rfl rfl rfl (hp _)
    · exact hp j
  | submit hl hc =>
    rw [submit_eq]
    intro i
    have := hp i
    simpa [State.poll] using this
  | retirement h =>
    obtain ⟨d, rest, c, -, -, -, rfl⟩ := retirement_cases h
    intro i
    have := hp i
    simpa [State.poll] using this
  | clearWork hs =>
    intro i
    show P ((vmap _ _).get i)
    rw [vmap_get]
    exact fresh _ rfl rfl rfl rfl
  | reload hs =>
    intro i
    show P ((Vector.replicate 24 Poll.empty).get i)
    simpa [Vector.get_eq_getElem] using empty
  | powerOnReset cfgen cfgadr fsel =>
    intro i
    rw [State.poll, powerOnReset_polls]
    simpa [Vector.get_eq_getElem] using empty
  | commit hr hl hw =>
    intro i
    show P ((vfill _).get i)
    rw [vfill_get, committedPoll]
    split
    · dsimp only
      split
      · exact fresh _ rfl rfl rfl rfl
      · exact same (s.poll i) _ rfl rfl rfl rfl (hp i)
    · exact hp i

/-! ### O13: failure counts and alarm states -/

theorem Target.failuresLawful_of_clear {t : Target} (h0 : t.failures = 0) (hq : t.state ≠ .quarantined) :
    t.FailuresLawful := by
  refine ⟨fun h => absurd h hq, fun _ ht => ?_⟩
  rw [h0]
  exact Nat.pos_of_ne_zero fun e => ht (BitVec.eq_of_toNat_eq e)

theorem CoreMove.quarantineLaw {s t : State} (h : CoreMove s t) (hq : QuarantineLaw s) : QuarantineLaw t :=
  h.targets_keep (P := Target.FailuresLawful) (fun _ _ hs => hs.failures) (fun _ _ => id)
    (fun _ => Target.failuresLawful_of_clear) hq

theorem CoreMove.alarmLaw {s t : State} (h : CoreMove s t) (ha : AlarmLaw s) : AlarmLaw t :=
  h.polls_keep (P := Poll.AlarmLawful) (fun _ _ hk => hk.alarm)
    (fun _ _ hv hal _ _ hp => by rwa [Poll.AlarmLawful, hv, hal])
    (fun p hv hal _ _ => by simp [Poll.AlarmLawful, hv, hal]) ha

/-- Settles O13: every move keeps both laws, entry by entry. -/
theorem stepKeepsQuarantineAndAlarmLaws : Obligations.StepKeepsQuarantineAndAlarmLaws := by
  unfold Obligations.StepKeepsQuarantineAndAlarmLaws
  intro s t h hstep
  exact step_keeps (P := fun s => QuarantineLaw s ∧ AlarmLaw s)
    (Move.keeps_of_core (fun _ => Iff.rfl) fun _ _ hm ⟨hq, ha⟩ => ⟨hm.quarantineLaw hq, hm.alarmLaw ha⟩) hstep h

end Sys2Proof.Machine
end

section
/-! SUPPORT. The places of targets: which moves keep the configured fields and vacancy of every entry, and R3 in the live table
and in the shadow tables. -/

namespace Sys2Proof.Machine

/-! ### What keeps every place -/

/-- Every entry has the configured fields it had, and is VACANT where it was. -/
def SamePlaces (s t : State) : Prop :=
  ∀ i, (t.target i).cfg = (s.target i).cfg ∧ ((t.target i).state = .vacant ↔ (s.target i).state = .vacant)

theorem samePlaces_of_targets {s t : State} (h : t.targets = s.targets) : SamePlaces s t := fun i => by
  simp [State.target, h]

theorem samePlaces_setTarget {s u : State} {i : Fin 32} {t : Target} (hu : u.targets = s.targets)
    (hcfg : t.cfg = (s.target i).cfg) (hv : t.state = .vacant ↔ (s.target i).state = .vacant) :
    SamePlaces s (u.setTarget i t) := by
  intro j
  rw [target_setTarget]
  split
  · next h => rw [h]; exact ⟨hcfg, hv⟩
  · exact samePlaces_of_targets hu j

/-- A move keeps every place, edits one unreferenced entry, empties the part, or commits a good list. -/
theorem CoreMove.places {s t : State} (h : CoreMove s t) :
    SamePlaces s t ∨
    (∃ i e, s.loader.state ≠ .loading ∧ (s.target i).refs = 0 ∧
      (e = .empty ∨ ∃ cfg, e = .written cfg ∧ ∀ j, j ≠ i → (s.target j).state ≠ .vacant →
        (s.target j).cfg.segment = cfg.segment → (s.target j).cfg.address ≠ cfg.address) ∧ t = s.setTarget i e) ∨
    (t = Machine.reload s ∨ ∃ cfgen cfgadr fsel, t = Machine.powerOnReset cfgen cfgadr fsel s) ∨
    ∃ l bytes, s.loader.state = .loading ∧ Walked { s.loader with report := none, bytes := bytes } l ∧ t = commitTables s l := by
  cases h with
  | same | pop | polls | rstnLow | fail => exact .inl (samePlaces_of_targets rfl)
  | seg | loaderEnd | enable | piece => exact .inl (samePlaces_of_targets (by simp [beginPiece]))
  | target h => exact .inl (samePlaces_setTarget rfl h.cfg h.vacant)
  | edit hl hrefs ht => exact .inr (.inl ⟨_, _, hl, hrefs, ht, rfl⟩)
  | pollEnable hl hoff hv =>
    rw [pollEnable_of_disabled hoff]
    exact .inl (samePlaces_setTarget (u := s) rfl rfl Iff.rfl)
  | pollDisable hon =>
    rw [pollDisable_of_enabled hon]
    exact .inl (samePlaces_setTarget (u := s) rfl rfl Iff.rfl)
  | submit hl hc =>
    rw [submit_eq]
    exact .inl (samePlaces_setTarget (State.setSeg_targets ..) rfl Iff.rfl)
  | retirement h =>
    obtain ⟨d, rest, c, -, -, -, rfl⟩ := retirement_cases h
    exact .inl (samePlaces_setTarget (State.setSeg_targets ..) rfl Iff.rfl)
  | clearWork hs =>
    refine .inl fun i => ?_
    have ht : (Machine.clearWork s).target i =
        (s.target i).softReset (pollRefs (vmap (fun p => p.softReset s.tick) s.polls) i) := vfill_get ..
    rw [ht]
    refine ⟨rfl, ?_⟩
    by_cases hv : (s.target i).state = .vacant <;> simp [Target.softReset, hv]
  | reload hs => exact .inr (.inr (.inl (.inl rfl)))
  | powerOnReset cfgen cfgadr fsel => exact .inr (.inr (.inl (.inr ⟨cfgen, cfgadr, fsel, rfl⟩)))
  | commit hr hl hw => exact .inr (.inr (.inr ⟨_, _, hl, hw, rfl⟩))

theorem target_of_replicate {s : State} (h : s.targets = Vector.replicate 32 Target.empty) (i : Fin 32) :
    s.target i = Target.empty := by
  rw [State.target, h]
  simp [Vector.get_eq_getElem]

/-- RELOAD and the power-on reset leave every target VACANT. -/
theorem target_of_emptied {s t : State}
    (h : t = reload s ∨ ∃ cfgen cfgadr fsel, t = powerOnReset cfgen cfgadr fsel s) (i : Fin 32) : t.target i = .empty := by
  obtain rfl | ⟨cfgen, cfgadr, fsel, rfl⟩ := h
  · exact target_of_replicate rfl i
  · exact target_of_replicate (powerOnReset_targets ..) i

/-! ### The shadow tables -/

theorem loader_of_emptied {s t : State}
    (h : t = reload s ∨ ∃ cfgen cfgadr fsel, t = powerOnReset cfgen cfgadr fsel s) :
    t.loader = .skipped ∨ t.loader = { Loader.skipped with state := .loading } := by
  obtain rfl | ⟨cfgen, cfgadr, fsel, rfl⟩ := h
  · exact .inr rfl
  · cases cfgen
    · exact .inl rfl
    · exact .inr rfl

/-- Every move leaves the loader as it is, empties its shadow tables and ends no load with it, begins one with them empty,
takes a report, or goes on along the list. -/
theorem CoreMove.loader_cases {s t : State} (h : CoreMove s t) :
    (t.loader.state = s.loader.state ∧ t.loader.shadow = s.loader.shadow ∧ t.loader.good = s.loader.good ∧
      t.loader.offset = s.loader.offset) ∨
    (t = Machine.reload s ∨ ∃ cfgen cfgadr fsel, t = Machine.powerOnReset cfgen cfgadr fsel s) ∨
    ∃ bytes l, s.loader.state = .loading ∧ Walked { s.loader with report := none, bytes := bytes } l ∧
      (t.loader = l ∨ (t.loader.state ≠ .loading ∧ t.loader.shadow = .empty ∧ t.loader.good = l.good ∧
        t.loader.offset = l.offset)) := by
  cases h with
  | same | pop | polls | rstnLow | target | edit | clearWork => exact .inl ⟨rfl, rfl, rfl, rfl⟩
  | fail reason hr hl hw => exact .inr (.inr ⟨_, _, hl, hw, .inr ⟨nofun, rfl, rfl, rfl⟩⟩)
  | seg | enable | loaderEnd => exact .inl (by simp)
  | pollEnable hl hoff hv => rw [pollEnable_of_disabled hoff]; exact .inl ⟨rfl, rfl, rfl, rfl⟩
  | pollDisable hon => rw [pollDisable_of_enabled hon]; exact .inl ⟨rfl, rfl, rfl, rfl⟩
  | submit hl hc => rw [submit_eq]; exact .inl (by simp)
  | retirement h =>
    obtain ⟨d, rest, c, -, -, -, rfl⟩ := retirement_cases h
    exact .inl (by simp)
  | piece hr hl hw => exact .inr (.inr ⟨_, _, hl, hw, .inl rfl⟩)
  | reload hs => exact .inr (.inl (.inl rfl))
  | powerOnReset cfgen cfgadr fsel => exact .inr (.inl (.inr ⟨cfgen, cfgadr, fsel, rfl⟩))
  | commit hr hl hw => exact .inr (.inr ⟨_, _, hl, hw, .inr ⟨nofun, rfl, rfl, rfl⟩⟩)

/-- What holds of empty shadow tables and is kept by every record holds of the shadow tables after every move. -/
theorem CoreMove.shadow_keeps {P : Shadow → Prop} (empty : P .empty)
    (record : ∀ sh code b sh', checkBody sh code b = .ok sh' → P sh → P sh') {s t : State} (h : CoreMove s t)
    (hp : P s.loader.shadow) : P t.loader.shadow := by
  rcases h.loader_cases with ⟨-, hsh, -, -⟩ | he | ⟨bytes, l, -, hw, hl | ⟨-, hsh, -, -⟩⟩
  · rwa [hsh]
  · obtain hl | hl := loader_of_emptied he <;> (rw [hl]; exact empty)
  · rw [hl]
    clear hl
    induction hw with
    | start => exact hp
    | record _ hc _ ih => exact record _ _ _ _ hc ih
  · rw [hsh]; exact empty

/-- All that a record that passes puts into the shadow tables. -/
theorem checkBody_cases {sh sh' : Shadow} {code : Byte} {b : List Byte} (h : checkBody sh code b = .ok sh') :
    (∃ x c, sh.seg x = none ∧ sh' = sh.setSeg x c) ∨
    (∃ i c, sh.targets.get i = none ∧ sh.hasPlace (c.segment, c.address) = false ∧
      sh' = { sh with targets := vset sh.targets i (some c) }) ∨
    (∃ i c e, sh.polls.get i = none ∧ (sh.targets.get c.target).isSome = true ∧
      sh' = { sh with polls := vset sh.polls i (some (c, e)) }) ∨
    (∃ e, eventsBody b = some e ∧ sh.events = none ∧ sh' = { sh with events := some e }) := by
  unfold checkBody at h
  split at h
  · unfold checkSegment at h
    split at h
    · cases h
    · next x c enable _ =>
      split at h
      · cases h
      · next hn => cases h; exact .inl ⟨x, _, by simpa using hn, rfl⟩
  · unfold checkTarget at h
    split at h
    · cases h
    · next i c _ =>
      split at h
      · cases h
      · next hn =>
        cases h
        simp only [Bool.or_eq_true, not_or, Bool.not_eq_true, Option.isSome_eq_false_iff, Option.isNone_iff_eq_none] at hn
        exact .inr (.inl ⟨i, c, hn.1, hn.2, rfl⟩)
  · unfold checkPoll at h
    split at h
    · cases h
    · next i c enabled _ =>
      split at h
      · cases h
      · next hn =>
        split at h
        · cases h
        · next ht =>
          split at h
          · cases h
          · cases h
            exact .inr (.inr (.inl ⟨i, c, enabled, by simpa using hn, by simp [ht], rfl⟩))
  · unfold checkEvents at h
    split at h
    · cases h
    · next e he =>
      split at h
      · cases h
      · next hn => cases h; exact .inr (.inr (.inr ⟨e, he, by simpa using hn, rfl⟩))

@[simp] theorem Shadow.setSeg_targets (sh : Shadow) (x : Seg) (c : SegConfig × Bool) : (sh.setSeg x c).targets = sh.targets := by
  cases x <;> rfl

@[simp] theorem Shadow.setSeg_polls (sh : Shadow) (x : Seg) (c : SegConfig × Bool) : (sh.setSeg x c).polls = sh.polls := by
  cases x <;> rfl

@[simp] theorem Shadow.setSeg_events (sh : Shadow) (x : Seg) (c : SegConfig × Bool) : (sh.setSeg x c).events = sh.events := by
  cases x <;> rfl

theorem Shadow.empty_target (i : Fin 32) : Shadow.empty.targets.get i = none := by
  simp [Shadow.empty, Vector.get_eq_getElem]

theorem Shadow.empty_poll (i : Fin 24) : Shadow.empty.polls.get i = none := by
  simp [Shadow.empty, Vector.get_eq_getElem]

/-- No written shadow target has a place that `hasPlace` does not find. -/
theorem Shadow.place_of_hasPlace_false {sh : Shadow} {c d : TargetConfig} (h : sh.hasPlace (c.segment, c.address) = false)
    {j : Fin 32} (hj : sh.targets.get j = some d) (hseg : d.segment = c.segment) : d.address ≠ c.address := by
  have hmem : some d ∈ sh.targets.toList := by
    rw [← hj, Vector.get_eq_getElem]
    simp
  have := List.any_eq_false.1 h _ hmem
  simpa [hseg] using this

/-- R3 among the written entries of shadow tables. -/
def Shadow.PlacesDistinct (sh : Shadow) : Prop :=
  ∀ i j c d, i ≠ j → sh.targets.get i = some c → sh.targets.get j = some d → c.segment = d.segment → c.address ≠ d.address

theorem Shadow.record_placesDistinct (sh : Shadow) (code : Byte) (b : List Byte) (sh' : Shadow)
    (h : checkBody sh code b = .ok sh') (hd : sh.PlacesDistinct) : sh'.PlacesDistinct := by
  obtain ⟨x, c, -, rfl⟩ | ⟨k, e, hk, hplace, rfl⟩ | ⟨k, c, e, -, -, rfl⟩ | ⟨e, -, -, rfl⟩ := checkBody_cases h
  · unfold Shadow.PlacesDistinct
    rwa [Shadow.setSeg_targets]
  · intro i j c d hij hi hj hseg
    dsimp only at hi hj
    rw [vset_get] at hi hj
    split at hi
    · next hik =>
      cases hi
      rw [if_neg fun h => hij (hik.trans h.symm)] at hj
      exact (Shadow.place_of_hasPlace_false hplace hj hseg.symm).symm
    · split at hj
      · cases hj
        exact Shadow.place_of_hasPlace_false hplace hi hseg
      · exact hd i j c d hij hi hj hseg
  · exact hd
  · exact hd

/-! ### O12 -/

theorem placesDistinct_of_same {s t : State} (h : SamePlaces s t) (hd : PlacesDistinct s) : PlacesDistinct t := by
  intro i j hij hi hj hseg
  rw [(h i).1, (h j).1] at hseg ⊢
  exact hd i j hij (fun e => hi ((h i).2.2 e)) (fun e => hj ((h j).2.2 e)) hseg

theorem placesDistinct_setTarget {s : State} {i : Fin 32} {e : Target} (hd : PlacesDistinct s)
    (he : e.state ≠ .vacant → ∀ j, j ≠ i → (s.target j).state ≠ .vacant →
      (s.target j).cfg.segment = e.cfg.segment → (s.target j).cfg.address ≠ e.cfg.address) :
    PlacesDistinct (s.setTarget i e) := by
  intro j k hjk hj hk hseg
  rw [target_setTarget] at hj hk hseg ⊢
  rw [target_setTarget] at hseg ⊢
  split at hj
  · next hji =>
    have hki : ¬ k = i := fun h => hjk (hji.trans h.symm)
    rw [if_neg hki] at hk hseg ⊢
    rw [if_pos hji] at hseg ⊢
    exact (he hj k hki hk hseg.symm).symm
  · next hji =>
    rw [if_neg hji] at hseg ⊢
    split at hk
    · next hki =>
      rw [if_pos hki] at hseg ⊢
      exact he hk j hji hj hseg
    · next hki =>
      rw [if_neg hki] at hseg ⊢
      exact hd j k hjk hj hk hseg

/-- A target entry after the commit of a load that found it VACANT. -/
theorem commitTables_target (s : State) (l : Loader) (i : Fin 32) :
    (commitTables s l).target i =
      { (match l.shadow.targets.get i with | some c => Target.written c | none => s.target i) with
        refs := pollRefs (commitTables s l).polls i } := by
  show (vfill _).get i = _
  rw [vfill_get]
  rfl

theorem placesDistinct_commit {s : State} {l : Loader} (hv : ∀ i, (s.target i).state = .vacant)
    (hd : l.shadow.PlacesDistinct) : PlacesDistinct (commitTables s l) := by
  have entry (i : Fin 32) (h : ((commitTables s l).target i).state ≠ .vacant) :
      ∃ c, l.shadow.targets.get i = some c ∧ ((commitTables s l).target i).cfg = c := by
    rw [commitTables_target] at h ⊢
    cases hi : l.shadow.targets.get i with
    | none => rw [hi] at h; exact absurd (hv i) h
    | some c => exact ⟨c, rfl, rfl⟩
  intro i j hij hi hj hseg
  obtain ⟨c, hc, hci⟩ := entry i hi
  obtain ⟨d, hd', hdj⟩ := entry j hj
  rw [hci, hdj] at hseg ⊢
  exact hd i j c d hij hc hd' hseg

theorem CoreMove.loadVacant {s t : State} (h : CoreMove s t) (hv : LoadVacant s) : LoadVacant t := by
  intro hload
  rcases h.places with hp | ⟨i, e, hl, -, -, rfl⟩ | he | ⟨l, bytes, hl, -, rfl⟩
  · rcases h.loader_cases with ⟨hst, -⟩ | he | ⟨bytes, l, hl, -⟩
    · exact fun i => (hp i).2.2 (hv (hst.symm.trans hload) i)
    · exact fun i => by rw [target_of_emptied he]; rfl
    · exact fun i => (hp i).2.2 (hv hl i)
  · exact absurd hload hl
  · exact fun i => by rw [target_of_emptied he]; rfl
  · exact absurd hload nofun

theorem Walked.placesDistinct {l k : Loader} (h : Walked l k) (hd : l.shadow.PlacesDistinct) : k.shadow.PlacesDistinct := by
  induction h with
  | start => exact hd
  | record _ hc _ ih => exact Shadow.record_placesDistinct _ _ _ _ hc ih

theorem CoreMove.placesDistinct {s t : State} (h : CoreMove s t) (hd : PlacesDistinct s) (hsh : ShadowPlacesDistinct s)
    (hv : LoadVacant s) : PlacesDistinct t := by
  rcases h.places with hp | ⟨i, e, -, -, he, rfl⟩ | he | ⟨l, bytes, hl, hw, rfl⟩
  · exact placesDistinct_of_same hp hd
  · refine placesDistinct_setTarget hd ?_
    obtain rfl | ⟨cfg, rfl, hfree⟩ := he
    · exact fun hne => absurd rfl hne
    · exact fun _ => hfree
  · exact fun i j _ hi => absurd (by rw [target_of_emptied he]; rfl) hi
  · exact placesDistinct_commit (hv hl) (hw.placesDistinct hsh)

/-- Settles O12: every move keeps the places distinct, the commit by the shadow tables' own law. -/
theorem stepKeepsTargetPlacesDistinct : Obligations.StepKeepsTargetPlacesDistinct := by
  unfold Obligations.StepKeepsTargetPlacesDistinct
  intro s t h hstep
  refine step_keeps (P := fun s => PlacesDistinct s ∧ ShadowPlacesDistinct s ∧ LoadVacant s)
    (Move.keeps_of_core (fun _ => Iff.rfl) fun s t hm ⟨hd, hsh, hv⟩ =>
      ⟨hm.placesDistinct hd hsh hv, ?_, hm.loadVacant hv⟩) hstep h
  refine hm.shadow_keeps (P := Shadow.PlacesDistinct) (fun i _ c _ _ hi => ?_) Shadow.record_placesDistinct hsh
  rw [Shadow.empty_target] at hi
  cases hi

end Sys2Proof.Machine
end

section
/-! SUPPORT. The law of reference counts (R9) and the routing of descriptors and polls it rests on (R10, R29). -/

namespace Sys2Proof.Machine

/-! ### Queues under moves of a segment -/

/-- A descriptor as it was submitted. -/
def Descriptor.submitted (d : Descriptor) : Descriptor := { d with state := .queued, cut := false }

theorem Descriptor.Settles.submitted {d d' : Descriptor} (h : d.Settles d') : d'.submitted = d.submitted := by
  obtain ⟨st, cut, rfl, -⟩ := h
  rfl

theorem map_submitted_of_settles {q q' : List Descriptor} (h : List.Forall₂ Descriptor.Settles q q') :
    q'.map Descriptor.submitted = q.map Descriptor.submitted := by
  induction h with
  | nil => rfl
  | cons hd _ ih => rw [List.map_cons, List.map_cons, hd.submitted, ih]

theorem handOut_queue (g : Segment) (it : Item) (o : TxOutcome) : (g.handOut it o).queue = g.queue := (handOut_frame g it o).1

/-- A move of a segment takes no descriptor in or out. -/
theorem SegMove.map_submitted {g g' : Segment} (h : SegMove g g') :
    g'.queue.map Descriptor.submitted = g.queue.map Descriptor.submitted := by
  cases h with
  | pause | resume | reports | item | sampled | recovered | halted | recover | grantPoll | grantAlert | disable => rfl
  | closed | faulted => exact congrArg _ (handOut_queue ..)
  | queue h => exact map_submitted_of_settles h
  | headFinished hr hq | headRefused hs hq | grantHead t now hs hq => rw [hq]; rfl

/-- What depends on the submitted descriptors alone is the same for two queues of the same ones. -/
theorem map_eq_of_submitted {α : Type} {f : Descriptor → α} (hf : ∀ d, f d.submitted = f d) {q q' : List Descriptor}
    (h : q'.map Descriptor.submitted = q.map Descriptor.submitted) : q'.map f = q.map f := by
  have : f ∘ Descriptor.submitted = f := funext hf
  simpa [this] using congrArg (List.map f) h

theorem queueRefs_eq (q : List Descriptor) (i : Fin 32) :
    queueRefs q i = (q.map (·.target)).countP (fun j => decide (j = i)) := by
  simp [queueRefs, List.countP_map, Function.comp_def]

theorem queueRefs_of_submitted {q q' : List Descriptor} (h : q'.map Descriptor.submitted = q.map Descriptor.submitted)
    (i : Fin 32) : queueRefs q' i = queueRefs q i := by
  rw [queueRefs_eq, queueRefs_eq, map_eq_of_submitted (f := (·.target)) (fun _ => rfl) h]

/-! ### A load runs beside empty queues -/

theorem forall_seg_setSeg {Q : Seg → Segment → Prop} {s : State} {y : Seg} {g : Segment} (h : ∀ x, Q x (s.seg x)) (hg : Q y g)
    (x : Seg) : Q x ((s.setSeg y g).seg x) := by
  rw [State.seg_setSeg]
  split
  · next hx => rw [hx]; exact hg
  · exact h x

theorem forall_seg_withLoader {Q : Seg → Segment → Prop} {s : State} {l : Loader} (h : ∀ x, Q x (s.seg x)) (x : Seg) :
    Q x (State.seg { s with loader := l } x) := by
  cases x
  · exact h .a
  · exact h .b

theorem SegMove.quiet {g g' : Segment} (h : SegMove g g') (hq : g.state = .disabled ∧ g.queue = []) :
    g'.state = .disabled ∧ g'.queue = [] := by
  obtain ⟨hd, hq⟩ := hq
  refine ⟨?_, by simpa [hq] using h.map_submitted⟩
  cases h with
  | pause hne => exact absurd hd hne
  | resume | recovered | halted => simp [hd, SegState.resume, SegState.recovered, SegState.halt]
  | closed | faulted => simp [hd, SegState.afterTransaction]
  | reports | item | sampled | queue | headFinished => exact hd
  | recover _ hs | headRefused hs | grantHead _ _ hs | grantPoll _ _ _ _ _ _ _ hs | grantAlert _ _ _ _ hs =>
    rw [hd] at hs
    cases hs
  | disable => rfl

/-- RELOAD and the power-on reset leave both segments at their power-on values but for a first read on engine A. -/
theorem seg_of_emptied {s t : State}
    (h : t = reload s ∨ ∃ cfgen cfgadr fsel, t = powerOnReset cfgen cfgadr fsel s) (x : Seg) :
    t.seg x = .powerOn (s.seg x).alertLow ∨
    (x = .a ∧ t.loader.state = .loading ∧
      t.seg x = { Segment.powerOn (s.seg x).alertLow with item := some (.loaderPiece t.cfgadr 0 t.tick) }) := by
  obtain rfl | ⟨cfgen, cfgadr, fsel, rfl⟩ := h
  · cases x
    · exact .inr ⟨rfl, rfl, rfl⟩
    · exact .inl rfl
  · cases cfgen <;> cases x
    · exact .inl rfl
    · exact .inl rfl
    · exact .inr ⟨rfl, rfl, rfl⟩
    · exact .inl rfl

theorem queue_of_emptied {s t : State}
    (h : t = reload s ∨ ∃ cfgen cfgadr fsel, t = powerOnReset cfgen cfgadr fsel s) (x : Seg) :
    (t.seg x).state = .disabled ∧ (t.seg x).queue = [] := by
  rcases seg_of_emptied h x with hx | ⟨-, -, hx⟩ <;> (rw [hx]; exact ⟨rfl, rfl⟩)

theorem poll_of_emptied {s t : State}
    (h : t = reload s ∨ ∃ cfgen cfgadr fsel, t = powerOnReset cfgen cfgadr fsel s) (i : Fin 24) : t.poll i = .empty := by
  have : t.polls = Vector.replicate 24 Poll.empty := by
    obtain rfl | ⟨cfgen, cfgadr, fsel, rfl⟩ := h
    · rfl
    · exact powerOnReset_polls ..
  rw [State.poll, this]
  simp [Vector.get_eq_getElem]

theorem LoadQuiet.bare (s : State) : LoadQuiet s.bare ↔ LoadQuiet s :=
  imp_congr Iff.rfl (forall_congr' fun x => by cases x <;> exact Iff.rfl)

theorem CoreMove.loadQuiet {s t : State} (h : CoreMove s t) (hq : LoadQuiet s) : LoadQuiet t := by
  intro hl
  cases h with
  | same | pop | target | edit | polls => exact hq hl
  | pollEnable hn => exact absurd hl (by unfold Machine.pollEnable; dsimp only; split <;> exact hn)
  | pollDisable hon =>
    rw [pollDisable_of_enabled hon] at hl ⊢
    exact hq hl
  | submit hn => exact absurd hl (by rw [submit_eq]; simpa using hn)
  | retirement h =>
    obtain ⟨d, rest, c, hd, -, -, rfl⟩ := retirement_cases h
    have hl' : s.loader.state = .loading := by simpa using hl
    exact absurd ((hq hl' _).2.symm.trans hd) nofun
  | @seg y g h =>
    have hs := hq (by simpa using hl)
    exact forall_seg_setSeg (Q := fun _ g => g.state = .disabled ∧ g.queue = []) hs (h.quiet (hs y))
  | @loaderEnd y it r =>
    have hs := hq (by simpa using hl)
    refine forall_seg_withLoader (Q := fun _ g => g.state = .disabled ∧ g.queue = []) ?_
    exact forall_seg_setSeg (Q := fun _ g => g.state = .disabled ∧ g.queue = []) hs (hs y)
  | enable hn => exact absurd hl (by simpa using hn)
  | clearWork hs => exact absurd hl hs.2
  | reload hs => exact queue_of_emptied (.inl rfl)
  | rstnLow => exact fun | .a => hq hl .a | .b => hq hl .b
  | powerOnReset => exact queue_of_emptied (.inr ⟨_, _, _, rfl⟩)
  | piece hr hs => exact fun | .a => hq hs .a | .b => hq hs .b
  | fail | commit => exact absurd hl nofun

/-! ### Counts of references by polls -/

theorem vset_toList {α : Type} {n : Nat} (v : Vector α n) (i : Fin n) (a : α) :
    (vset v i a).toList = v.toList.set i.val a := by
  simp [vset, Vector.toList_set]

/-- Whether a poll entry refers to a target. -/
def Poll.refersTo (i : Fin 32) (p : Poll) : Bool := p.enabled && decide (p.cfg.target = i)

theorem pollRefs_eq (v : Vector Poll 24) (i : Fin 32) : pollRefs v i = v.toList.countP (Poll.refersTo i) := rfl

theorem pollRefs_vset (v : Vector Poll 24) (k : Fin 24) (p : Poll) (i : Fin 32) :
    pollRefs (vset v k p) i =
      pollRefs v i - (if (v.get k).refersTo i then 1 else 0) + (if p.refersTo i then 1 else 0) := by
  rw [pollRefs_eq, pollRefs_eq, vset_toList, List.countP_set]
  · simp [Vector.get_eq_getElem]
  · simp

theorem pollRefs_pos {v : Vector Poll 24} {k : Fin 24} {i : Fin 32} (h : (v.get k).refersTo i = true) : 0 < pollRefs v i :=
  List.countP_pos_iff.2 ⟨v.get k, by simp [Vector.get_eq_getElem], h⟩

theorem toList_eq_ofFn {α : Type} {n : Nat} (v : Vector α n) : v.toList = List.ofFn v.get := by
  apply List.ext_getElem
  · simp
  · intro i h1 h2
    simp [Vector.get_eq_getElem]

theorem pollRefs_congr {v w : Vector Poll 24} {i : Fin 32} (h : ∀ k, (w.get k).refersTo i = (v.get k).refersTo i) :
    pollRefs w i = pollRefs v i := by
  have map_eq (u : Vector Poll 24) : pollRefs u i = (List.ofFn fun k => (u.get k).refersTo i).countP id := by
    rw [pollRefs_eq, toList_eq_ofFn, ← Function.comp_def, ← List.map_ofFn, List.countP_map]
    rfl
  rw [map_eq, map_eq]
  exact congrArg (fun f => (List.ofFn f).countP id) (funext h)

theorem Poll.Keeps.refersTo {p p' : Poll} (h : p.Keeps p') (i : Fin 32) : p'.refersTo i = p.refersTo i := by
  unfold Poll.refersTo
  rw [h.enabled]
  cases hp : p.enabled with
  | false => rfl
  | true => rw [h.target hp]

theorem pollRefs_of_none {v : Vector Poll 24} (h : ∀ k, (v.get k).enabled = false) (i : Fin 32) : pollRefs v i = 0 := by
  rw [pollRefs_eq, List.countP_eq_zero]
  intro p hp
  obtain ⟨k, hk, rfl⟩ := List.mem_iff_getElem.1 hp
  have := h ⟨k, by simpa using hk⟩
  rw [Vector.get_eq_getElem] at this
  simp [Poll.refersTo, this]

/-! ### The law of reference counts -/

/-- Held descriptors and enabled poll entries that name a target (R9). -/
def refCount (s : State) (i : Fin 32) : Nat := queueRefs s.segA.queue i + queueRefs s.segB.queue i + pollRefs s.polls i

theorem RefLaw.bare (s : State) : RefLaw s.bare ↔ RefLaw s := Iff.rfl

theorem refCount_setSeg {s : State} {x : Seg} {g : Segment}
    (h : g.queue.map Descriptor.submitted = (s.seg x).queue.map Descriptor.submitted) (i : Fin 32) :
    refCount (s.setSeg x g) i = refCount s i := by
  cases x <;> simp only [refCount, State.setSeg, queueRefs_of_submitted h] <;> rfl

theorem refCount_queue {s : State} {x : Seg} {g : Segment} {i : Fin 32} :
    refCount (s.setSeg x g) i + queueRefs (s.seg x).queue i = refCount s i + queueRefs g.queue i := by
  cases x <;> simp only [refCount, State.setSeg, State.seg_a, State.seg_b] <;> omega

theorem queueRefs_append (q : List Descriptor) (d : Descriptor) (i : Fin 32) :
    queueRefs (q ++ [d]) i = queueRefs q i + if d.target = i then 1 else 0 := by
  simp [queueRefs, List.countP_append, List.countP_cons]

theorem queueRefs_cons (q : List Descriptor) (d : Descriptor) (i : Fin 32) :
    queueRefs (d :: q) i = queueRefs q i + if d.target = i then 1 else 0 := by
  simp [queueRefs, List.countP_cons]

theorem refCount_submit (s : State) (i : Fin 32) :
    refCount (submit s) i = refCount s i + if idx32 (stagedDescriptor s.ds).target = i then 1 else 0 := by
  have h := refCount_queue (s := s) (x := (stagedEntry s).cfg.segment) (i := i)
    (g := { s.seg (stagedEntry s).cfg.segment with
      queue := (s.seg (stagedEntry s).cfg.segment).queue ++
        [acceptedDescriptor s (s.seg (stagedEntry s).cfg.segment).queue] })
  rw [queueRefs_append] at h
  have hs : refCount (submit s) i = refCount (s.setSeg (stagedEntry s).cfg.segment { s.seg (stagedEntry s).cfg.segment with
      queue := (s.seg (stagedEntry s).cfg.segment).queue ++
        [acceptedDescriptor s (s.seg (stagedEntry s).cfg.segment).queue] }) i := by rw [submit_eq]; rfl
  have ht : (acceptedDescriptor s (s.seg (stagedEntry s).cfg.segment).queue).target = idx32 (stagedDescriptor s.ds).target :=
    rfl
  rw [ht] at h
  omega

theorem refLaw_submit {s : State} (h : RefLaw s) : RefLaw (submit s) := by
  intro i
  show _ = refCount _ i
  have hi := h i
  rw [refCount_submit, submit_eq]
  show ((State.setTarget _ _ _).target i).refs = _
  rw [target_setTarget, State.target_setSeg]
  change _ = refCount s i at hi
  by_cases he : i = idx32 (stagedDescriptor s.ds).target
  · rw [if_pos he, if_pos he.symm, ← hi, he]
    rfl
  · rw [if_neg he, if_neg (Ne.symm he), hi, Nat.add_zero]

theorem refLaw_retirement {x : Seg} {s t : State} (h : RefLaw s) (hr : retirement x s = some t) : RefLaw t := by
  obtain ⟨d, rest, c, hq, -, -, rfl⟩ := retirement_cases hr
  intro i
  have hi : (s.target i).refs = refCount s i := h i
  have hc : refCount (s.setSeg x { s.seg x with queue := rest }) i + (queueRefs rest i + if d.target = i then 1 else 0) =
      refCount s i + queueRefs rest i := by
    rw [← queueRefs_cons, ← hq]
    exact refCount_queue
  show ((State.setTarget _ _ _).target i).refs = refCount (s.setSeg x { s.seg x with queue := rest }) i
  rw [target_setTarget, State.target_setSeg]
  generalize refCount (s.setSeg x { s.seg x with queue := rest }) i = n at hc ⊢
  by_cases he : i = d.target
  · rw [if_pos he, ← he]
    rw [if_pos he.symm] at hc
    have hu : (s.target i).unref.refs = (s.target i).refs - 1 := rfl
    omega
  · rw [if_neg he]
    rw [if_neg (Ne.symm he)] at hc
    omega

theorem refLaw_of_refs {s t : State} (h : RefLaw s) (hr : ∀ i, (t.target i).refs = (s.target i).refs)
    (hc : ∀ i, refCount t i = refCount s i) : RefLaw t := fun i => by
  have := h i
  change _ = refCount s i at this
  change _ = refCount t i
  rw [hr, hc, this]

theorem refLaw_pollEnable {s : State} {i : Fin 24} (h : RefLaw s) (hoff : (s.poll i).enabled = false) :
    RefLaw (pollEnable i s) := by
  rw [pollEnable_of_disabled hoff]
  intro j
  have hj := h j
  show ((State.setTarget _ _ _).target j).refs = queueRefs s.segA.queue j + queueRefs s.segB.queue j + pollRefs (vset s.polls i _) j
  have hold : (s.polls.get i).refersTo j = false := by
    have : (s.polls.get i).enabled = false := hoff
    simp [Poll.refersTo, this]
  have hnew : ((s.poll i).enable s.tick).refersTo j = decide ((s.poll i).cfg.target = j) := Bool.true_and _
  rw [pollRefs_vset, hold, hnew, target_setTarget]
  by_cases he : j = (s.poll i).cfg.target
  · simp only [he, if_true, decide_true, Bool.false_eq_true, if_false]
    rw [he] at hj
    omega
  · simp only [he, Ne.symm he, if_false, decide_false, Bool.false_eq_true]
    omega

theorem refLaw_pollDisable {s : State} {i : Fin 24} (h : RefLaw s) (hon : (s.poll i).enabled = true) :
    RefLaw (pollDisable i s) := by
  rw [pollDisable_of_enabled hon]
  intro j
  have hj := h j
  show ((State.setTarget _ _ _).target j).refs = queueRefs s.segA.queue j + queueRefs s.segB.queue j + pollRefs (vset s.polls i _) j
  have hold : (s.polls.get i).refersTo j = decide ((s.poll i).cfg.target = j) :=
    (congrArg (· && decide ((s.poll i).cfg.target = j)) hon).trans (Bool.true_and _)
  rw [pollRefs_vset, hold, target_setTarget]
  by_cases he : j = (s.poll i).cfg.target
  · have hpos : 0 < pollRefs s.polls j := pollRefs_pos (k := i) (by rw [hold]; simp [he])
    rw [he] at hj hpos
    simp only [he, if_true, decide_true, Poll.refersTo, Bool.false_and, Bool.false_eq_true, if_false]
    omega
  · simp only [he, Ne.symm he, if_false, decide_false, Poll.refersTo, Bool.false_and, Bool.false_eq_true]
    omega

theorem refLaw_of_emptied {s t : State}
    (h : t = reload s ∨ ∃ cfgen cfgadr fsel, t = powerOnReset cfgen cfgadr fsel s) : RefLaw t := by
  intro i
  have hA : t.segA.queue = [] := (queue_of_emptied h .a).2
  have hB : t.segB.queue = [] := (queue_of_emptied h .b).2
  have hp : pollRefs t.polls i = 0 := pollRefs_of_none (fun k => congrArg Poll.enabled (poll_of_emptied h k)) i
  rw [target_of_emptied h, hA, hB, hp]
  rfl

theorem Segment.commit_queue (g : Segment) (c : Option (SegConfig × Bool)) : (g.commit c).queue = g.queue := by
  unfold Segment.commit
  split
  · split <;> rfl
  · rfl

theorem CoreMove.refLaw {s t : State} (h : CoreMove s t) (hq : LoadQuiet s) (hr : RefLaw s) : RefLaw t := by
  cases h with
  | same | pop | rstnLow | fail | piece => exact hr
  | @target i _ h =>
    refine refLaw_of_refs hr (fun j => ?_) fun _ => rfl
    rw [target_setTarget]
    split
    · next hj => rw [h.refs, hj]
    · rfl
  | @edit i e hl hrefs he =>
    refine refLaw_of_refs hr (fun j => ?_) fun _ => rfl
    rw [target_setTarget]
    split
    · next hj =>
      rw [hj, hrefs]
      obtain rfl | ⟨cfg, rfl, -⟩ := he <;> rfl
    · rfl
  | polls h =>
    refine refLaw_of_refs hr (fun _ => rfl) fun j => ?_
    exact congrArg (_ + ·) (pollRefs_congr fun k => (h k).refersTo j)
  | pollEnable hl hoff => exact refLaw_pollEnable hr hoff
  | pollDisable hon => exact refLaw_pollDisable hr hon
  | submit => exact refLaw_submit hr
  | retirement h => exact refLaw_retirement hr h
  | seg h => exact refLaw_of_refs hr (fun _ => by rw [State.target_setSeg]) (refCount_setSeg h.map_submitted)
  | loaderEnd => exact refLaw_of_refs hr (fun _ => congrArg Target.refs (State.target_setSeg ..)) (refCount_setSeg rfl)
  | enable => exact refLaw_of_refs hr (fun _ => by rw [State.target_setSeg]) (refCount_setSeg rfl)
  | clearWork hs =>
    intro i
    have ht : (Machine.clearWork s).target i =
        (s.target i).softReset (pollRefs (vmap (fun p => p.softReset s.tick) s.polls) i) := vfill_get ..
    rw [ht]
    exact (Nat.zero_add _).symm
  | reload hs => exact refLaw_of_emptied (.inl rfl)
  | powerOnReset => exact refLaw_of_emptied (.inr ⟨_, _, _, rfl⟩)
  | @commit r bytes l hrep hl hw =>
    intro i
    have queueNil (x : Seg) (c : Option (SegConfig × Bool)) : ((s.seg x).commit c).queue = [] := by
      rw [Segment.commit_queue, (hq hl x).2]
    rw [commitTables_target]
    show pollRefs _ i = queueRefs (s.segA.commit l.shadow.segA).queue i + queueRefs (s.segB.commit l.shadow.segB).queue i + _
    rw [← State.seg_a, ← State.seg_b, queueNil, queueNil]
    exact (Nat.zero_add _).symm

/-! ### The routing of descriptors and polls -/

/-- Descriptors of a queue stand there for targets that are not VACANT and of its segment. -/
def Routed (s : State) : Prop :=
  ∀ x, ∀ d ∈ (s.seg x).queue, (s.target d.target).state ≠ .vacant ∧ (s.target d.target).cfg.segment = x

/-- Enabled poll entries name targets that are not VACANT. -/
def PollsRouted (s : State) : Prop :=
  ∀ i, (s.poll i).enabled = true → (s.target (s.poll i).cfg.target).state ≠ .vacant

/-- Every written shadow poll names a written shadow target. -/
def Shadow.Routed (sh : Shadow) : Prop :=
  ∀ i c e, sh.polls.get i = some (c, e) → (sh.targets.get c.target).isSome = true

theorem RouteLaw.bare (s : State) : RouteLaw s.bare ↔ RouteLaw s :=
  and_congr_left' (forall_congr' fun x => by cases x <;> exact Iff.rfl)

theorem Shadow.record_routed (sh : Shadow) (code : Byte) (b : List Byte) (sh' : Shadow)
    (h : checkBody sh code b = .ok sh') (hr : sh.Routed) : sh'.Routed := by
  obtain ⟨x, c, -, rfl⟩ | ⟨k, e, hk, -, rfl⟩ | ⟨k, c, e, -, hc, rfl⟩ | ⟨e, -, -, rfl⟩ := checkBody_cases h
  · unfold Shadow.Routed
    rwa [Shadow.setSeg_targets, Shadow.setSeg_polls]
  · intro i c f hi
    dsimp only
    rw [vset_get]
    split
    · rfl
    · exact hr i c f hi
  · intro i c' f hi
    dsimp only at hi
    rw [vset_get] at hi
    split at hi
    · cases hi; exact hc
    · exact hr i c' f hi
  · exact hr

/-- What stands in a queue after a move was submitted to it before, or is submitted by it. -/
theorem CoreMove.mem_queue {s t : State} (h : CoreMove s t) {x : Seg} {d : Descriptor} (hd : d ∈ (t.seg x).queue) :
    (∃ d' ∈ (s.seg x).queue, d'.submitted = d.submitted) ∨
    (s.loader.state ≠ .loading ∧ firstFailing (submitChecks s) = none ∧ t = Machine.submit s ∧
      x = (stagedEntry s).cfg.segment ∧ d = acceptedDescriptor s (s.seg x).queue) := by
  have same (y : Seg) (g : Segment) (hg : g.queue.map Descriptor.submitted = (s.seg y).queue.map Descriptor.submitted)
      (hd : d ∈ ((s.setSeg y g).seg x).queue) : ∃ d' ∈ (s.seg x).queue, d'.submitted = d.submitted := by
    rw [State.seg_setSeg] at hd
    split at hd
    · next hx =>
      have := List.mem_map_of_mem (f := Descriptor.submitted) hd
      rw [hg, List.mem_map] at this
      rwa [hx]
    · exact ⟨d, hd, rfl⟩
  have emptied (he : t = Machine.reload s ∨ ∃ cfgen cfgadr fsel, t = Machine.powerOnReset cfgen cfgadr fsel s) : False := by
    rw [(queue_of_emptied he x).2] at hd
    cases hd
  cases h with
  | same | pop | target | edit | polls | fail => exact .inl ⟨d, hd, rfl⟩
  | pollEnable hl hoff =>
    rw [pollEnable_of_disabled hoff] at hd
    exact .inl ⟨d, hd, rfl⟩
  | pollDisable hon =>
    rw [pollDisable_of_enabled hon] at hd
    exact .inl ⟨d, hd, rfl⟩
  | submit hl hc =>
    rw [submit_eq] at hd
    change d ∈ (State.seg (s.setSeg _ _) x).queue at hd
    rw [State.seg_setSeg] at hd
    split at hd
    · next hx =>
      obtain hd | hd := List.mem_append.1 hd
      · exact .inl ⟨d, hx ▸ hd, rfl⟩
      · exact .inr ⟨hl, hc, rfl, hx, hx ▸ List.mem_singleton.1 hd⟩
    · exact .inl ⟨d, hd, rfl⟩
  | retirement h =>
    obtain ⟨d', rest, c, hq, -, -, rfl⟩ := retirement_cases h
    change d ∈ (State.seg (s.setSeg _ _) x).queue at hd
    rw [State.seg_setSeg] at hd
    split at hd
    · next hx => exact .inl ⟨d, by rw [hx, hq]; exact List.mem_cons_of_mem _ hd, rfl⟩
    · exact .inl ⟨d, hd, rfl⟩
  | seg h => exact .inl (same _ _ h.map_submitted hd)
  | @loaderEnd y => exact .inl (same y { s.seg y with item := none } rfl hd)
  | @enable y => exact .inl (same y { s.seg y with state := .ready, streak := 0 } rfl hd)
  | clearWork => cases x <;> cases hd
  | reload => exact (emptied (.inl rfl)).elim
  | powerOnReset => exact (emptied (.inr ⟨_, _, _, rfl⟩)).elim
  | rstnLow | piece => exact .inl ⟨d, by cases x <;> exact hd, rfl⟩
  | commit =>
    refine .inl ⟨d, ?_, rfl⟩
    cases x <;> (refine Eq.mp (congrArg (d ∈ ·) ?_) hd; exact Segment.commit_queue ..)

theorem submitChecks_pass {s : State} (h : firstFailing (submitChecks s) = none) :
    (stagedEntry s).state ≠ .vacant ∧ (stagedDescriptor s.ds).target ≤ 31 ∧ (stagedEntry s).state ≠ .quarantined ∧
    (s.seg (stagedEntry s).cfg.segment).state ≠ .disabled ∧ (∃ k, (stagedDescriptor s.ds).kind = some k) ∧
    (stagedDescriptor s.ds).lengthsOk = true ∧
    ((stagedDescriptor s.ds).usesPage = true → lent s (stagedDescriptor s.ds).page = false) ∧
    (s.seg (stagedEntry s).cfg.segment).queue.length < 16 := by
  simp only [submitChecks, firstFailing_cons_eq_none, Bool.or_eq_false_iff, decide_eq_false_iff_not, not_lt,
    Option.isNone_eq_false_iff, Option.isSome_iff_exists, Bool.not_eq_false', Bool.and_eq_false_imp, not_le] at h
  obtain ⟨⟨ht, hv⟩, hq, hd, hk, hlen, -, hp, hfull, -⟩ := h
  exact ⟨hv, ht, hq, hd, hk, hlen, hp, hfull⟩

theorem refCount_pos_of_mem {s : State} {x : Seg} {d : Descriptor} (hd : d ∈ (s.seg x).queue) : 0 < refCount s d.target := by
  have : 0 < queueRefs (s.seg x).queue d.target := List.countP_pos_iff.2 ⟨d, hd, by simp⟩
  cases x <;> simp only [State.seg_a, State.seg_b] at this <;> (unfold refCount; omega)

theorem refCount_pos_of_poll {s : State} {k : Fin 24} (h : (s.poll k).enabled = true) :
    0 < refCount s (s.poll k).cfg.target := by
  have : 0 < pollRefs s.polls (s.poll k).cfg.target :=
    pollRefs_pos (k := k) (by show (_ && _) = true; rw [show (s.polls.get k).enabled = true from h]; simp [State.poll])
  unfold refCount
  omega

theorem CoreMove.routed {s t : State} (h : CoreMove s t) (hq : LoadQuiet s) (hr : RefLaw s) (hd : Routed s) : Routed t := by
  intro x d hmem
  obtain ⟨d', hd', hsub⟩ | ⟨-, hc, rfl, rfl, rfl⟩ := h.mem_queue hmem
  · have htarget : d'.submitted.target = d.submitted.target := congrArg Descriptor.target hsub
    change d'.target = d.target at htarget
    obtain ⟨hv, hseg⟩ := hd x d' hd'
    rw [htarget] at hv hseg
    rcases h.places with hp | ⟨i, e, -, hrefs, -, rfl⟩ | he | ⟨l, bytes, hl, -, rfl⟩
    · rw [(hp _).1]
      exact ⟨fun e => hv ((hp _).2.1 e), hseg⟩
    · have hne : d.target ≠ i := fun e => by
        have hpos := refCount_pos_of_mem hd'
        rw [htarget, e] at hpos
        exact absurd ((hr i).symm.trans hrefs) hpos.ne'
      rw [target_setTarget, if_neg hne]
      exact ⟨hv, hseg⟩
    · rw [(queue_of_emptied he x).2] at hmem
      cases hmem
    · rw [(hq hl x).2] at hd'
      cases hd'
  · have hsame : SamePlaces s (Machine.submit s) := by
      rw [submit_eq]
      exact samePlaces_setTarget (State.setSeg_targets ..) rfl Iff.rfl
    obtain ⟨hv, -⟩ := submitChecks_pass hc
    exact ⟨fun e => hv ((hsame _).2.1 e), (congrArg TargetConfig.segment (hsame _).1)⟩

/-- Poll entries that are enabled after a move were so before, or are enabled by it for a target that is not VACANT. -/
theorem CoreMove.enabled_cases {s t : State} (h : CoreMove s t)
    (hquiet : s.loader.state = .loading → ∀ i, (s.poll i).enabled = false) {i : Fin 24} (hi : (t.poll i).enabled = true) :
    ((s.poll i).enabled = true ∧ (t.poll i).cfg.target = (s.poll i).cfg.target) ∨
    (s.loader.state ≠ .loading ∧ (s.target (s.poll i).cfg.target).state ≠ .vacant ∧
      (t.poll i).cfg.target = (s.poll i).cfg.target ∧ SamePlaces s t) ∨
    ∃ l bytes c, s.loader.state = .loading ∧ Walked { s.loader with report := none, bytes := bytes } l ∧
      l.shadow.polls.get i = some (c, true) ∧ t = commitTables s l ∧ (t.poll i).cfg = c := by
  have emptied (he : t = Machine.reload s ∨ ∃ cfgen cfgadr fsel, t = Machine.powerOnReset cfgen cfgadr fsel s) : False := by
    rw [poll_of_emptied he] at hi
    cases hi
  cases h with
  | same | pop | target | edit | rstnLow | fail | piece => exact .inl ⟨hi, rfl⟩
  | seg | loaderEnd | enable => exact .inl (by simpa [State.poll] using hi)
  | polls h =>
    have he : (s.poll i).enabled = true := (h i).enabled.symm.trans hi
    exact .inl ⟨he, (h i).target he⟩
  | @pollEnable k hl hoff hv =>
    rw [pollEnable_of_disabled hoff] at hi ⊢
    rw [poll_setPoll] at hi ⊢
    split at hi
    · next hik =>
      rw [if_pos hik, hik]
      exact .inr (.inl ⟨hl, hv, rfl, samePlaces_setTarget (u := s) rfl rfl Iff.rfl⟩)
    · next hik =>
      rw [if_neg hik]
      exact .inl ⟨hi, rfl⟩
  | @pollDisable k hon =>
    rw [pollDisable_of_enabled hon] at hi ⊢
    rw [poll_setPoll] at hi ⊢
    split at hi
    · cases hi
    · next hik =>
      rw [if_neg hik]
      exact .inl ⟨hi, rfl⟩
  | submit =>
    rw [submit_eq] at hi ⊢
    exact .inl (by simpa [State.poll] using hi)
  | retirement h =>
    obtain ⟨d, rest, c, -, -, -, rfl⟩ := retirement_cases h
    exact .inl (by simpa [State.poll] using hi)
  | clearWork =>
    have hp : (Machine.clearWork s).poll i = (s.poll i).softReset s.tick := vmap_get ..
    rw [hp] at hi ⊢
    exact .inl ⟨hi, rfl⟩
  | reload => exact (emptied (.inl rfl)).elim
  | powerOnReset => exact (emptied (.inr ⟨_, _, _, rfl⟩)).elim
  | @commit r bytes l hr hl hw =>
    have hp : (commitTables s l).poll i = committedPoll l.shadow s.tick (s.poll i) i := vfill_get ..
    rw [hp] at hi ⊢
    unfold committedPoll at hi ⊢
    split at hi
    · next c e hc =>
      cases e with
      | true => exact .inr (.inr ⟨l, bytes, c, hl, hw, hc, rfl, rfl⟩)
      | false => exact absurd ((hquiet hl i).symm.trans hi) nofun
    · exact .inl ⟨hi, rfl⟩

theorem Walked.routed {l k : Loader} (h : Walked l k) (hr : l.shadow.Routed) : k.shadow.Routed := by
  induction h with
  | start => exact hr
  | record _ hc _ ih => exact Shadow.record_routed _ _ _ _ hc ih

theorem CoreMove.pollsRouted {s t : State} (h : CoreMove s t) (hr : RefLaw s) (hp : PollsRouted s)
    (hquiet : s.loader.state = .loading → ∀ i, (s.poll i).enabled = false) (hsh : s.loader.shadow.Routed) :
    PollsRouted t := by
  intro k hk
  obtain ⟨hks, htarget⟩ | ⟨-, hv, htarget, hsame⟩ | ⟨l, bytes, c, hl, hw, hc, rfl, hcfg⟩ := h.enabled_cases hquiet hk
  · rw [htarget]
    rcases h.places with hsame | ⟨i, e, -, hrefs, -, rfl⟩ | he | ⟨l, bytes, hl, -, rfl⟩
    · exact fun e => hp k hks ((hsame _).2.1 e)
    · have hne : (s.poll k).cfg.target ≠ i := fun e => by
        have hpos := refCount_pos_of_poll hks
        rw [e] at hpos
        exact absurd ((hr i).symm.trans hrefs) hpos.ne'
      rw [target_setTarget, if_neg hne]
      exact hp k hks
    · rw [poll_of_emptied he] at hk
      cases hk
    · exact absurd ((hquiet hl k).symm.trans hks) nofun
  · rw [htarget]
    exact fun e => hv ((hsame _).2.1 e)
  · obtain ⟨tc, htc⟩ := Option.isSome_iff_exists.1 (hw.routed hsh k c true hc)
    rw [hcfg, commitTables_target, htc]
    exact nofun

theorem CoreMove.loadDisabled {s t : State} (h : CoreMove s t)
    (hquiet : s.loader.state = .loading → ∀ i, (s.poll i).enabled = false) :
    t.loader.state = .loading → ∀ i, (t.poll i).enabled = false := by
  intro hl i
  by_contra hon
  rw [Bool.not_eq_false] at hon
  have loading : s.loader.state = .loading := by
    rcases h.loader_cases with ⟨hst, -⟩ | he | ⟨bytes, l, hl, -⟩
    · exact hst.symm.trans hl
    · rw [poll_of_emptied he] at hon
      cases hon
    · exact hl
  obtain ⟨hs, -⟩ | ⟨hnl, -⟩ | ⟨l, bytes, c, -, -, -, rfl, -⟩ := h.enabled_cases hquiet hon
  · exact absurd ((hquiet loading i).symm.trans hs) nofun
  · exact hnl loading
  · cases hl

theorem CoreMove.routeLaw {s t : State} (h : CoreMove s t) (hq : LoadQuiet s) (hr : RefLaw s) (hroute : RouteLaw s) :
    RouteLaw t := by
  obtain ⟨hd, hp, hquiet, hsh⟩ := hroute
  refine ⟨h.routed hq hr hd, h.pollsRouted hr hp hquiet hsh, h.loadDisabled hquiet, ?_⟩
  refine h.shadow_keeps (P := Shadow.Routed) (fun i c e hi => ?_) Shadow.record_routed hsh
  rw [Shadow.empty_poll] at hi
  cases hi

/-- The laws of references of one state. -/
def References (s : State) : Prop := LoadQuiet s ∧ RefLaw s ∧ RouteLaw s

theorem References.bare (s : State) : References s.bare ↔ References s :=
  and_congr (LoadQuiet.bare s) (and_congr (RefLaw.bare s) (RouteLaw.bare s))

theorem CoreMove.references {s t : State} (h : CoreMove s t) (hs : References s) : References t := by
  obtain ⟨hq, hr, hroute⟩ := hs
  exact ⟨h.loadQuiet hq, h.refLaw hq hr, h.routeLaw hq hr hroute⟩

/-- Settles O10: every move keeps the three laws together. -/
theorem stepKeepsReferenceLaws : Obligations.StepKeepsReferenceLaws := by
  unfold Obligations.StepKeepsReferenceLaws
  intro s t h hstep
  exact step_keeps (P := References) (Move.keeps_of_core References.bare fun _ _ hm => hm.references) hstep h

end Sys2Proof.Machine
end

section
/-! SUPPORT. The law of page holders and the slots of held descriptors (R30, R63). -/

namespace Sys2Proof.Machine

/-! ### What changes queues and holder records -/

/-- The same descriptors are held, and every page has the holder it had. -/
def SameHeld (s t : State) : Prop :=
  (∀ x, (t.seg x).queue.map Descriptor.submitted = (s.seg x).queue.map Descriptor.submitted) ∧ t.holders = s.holders

theorem sameHeld_setSeg {s : State} {x : Seg} {g : Segment}
    (h : g.queue.map Descriptor.submitted = (s.seg x).queue.map Descriptor.submitted) : SameHeld s (s.setSeg x g) :=
  ⟨forall_seg_setSeg (Q := fun x g => g.queue.map Descriptor.submitted = (s.seg x).queue.map Descriptor.submitted)
    (fun _ => rfl) h, by simp⟩

/-- A move leaves what is held, submits one descriptor, retires one, or gives up all. -/
theorem CoreMove.held_cases {s t : State} (h : CoreMove s t) :
    SameHeld s t ∨ (firstFailing (submitChecks s) = none ∧ t = Machine.submit s) ∨
    (∃ x, Machine.retirement x s = some t) ∨
    ((∀ x, (t.seg x).queue = []) ∧ t.holders = Vector.replicate 32 none) := by
  cases h with
  | same | pop | target | edit | polls | fail => exact .inl ⟨fun _ => rfl, rfl⟩
  | rstnLow | piece => exact .inl ⟨fun x => by cases x <;> rfl, rfl⟩
  | pollEnable hl hoff => rw [pollEnable_of_disabled hoff]; exact .inl ⟨fun _ => rfl, rfl⟩
  | pollDisable hon => rw [pollDisable_of_enabled hon]; exact .inl ⟨fun _ => rfl, rfl⟩
  | submit hl hc => exact .inr (.inl ⟨hc, rfl⟩)
  | retirement h => exact .inr (.inr (.inl ⟨_, h⟩))
  | seg h => exact .inl (sameHeld_setSeg h.map_submitted)
  | loaderEnd | enable => exact .inl (sameHeld_setSeg rfl)
  | clearWork => exact .inr (.inr (.inr ⟨fun x => by cases x <;> rfl, rfl⟩))
  | reload => exact .inr (.inr (.inr ⟨fun x => (queue_of_emptied (.inl rfl) x).2, rfl⟩))
  | powerOnReset cfgen =>
    exact .inr (.inr (.inr ⟨fun x => (queue_of_emptied (.inr ⟨_, _, _, rfl⟩) x).2, by cases cfgen <;> rfl⟩))
  | commit => exact .inl ⟨fun x => by cases x <;> exact congrArg _ (Segment.commit_queue ..), rfl⟩

/-! ### Slots -/

/-- In a queue with room the lowest free slot is one of the sixteen, and free. -/
theorem freeSlot_free {q : List Descriptor} (h : q.length < 16) : freeSlot q < 16 ∧ ∀ d ∈ q, d.slot ≠ freeSlot q := by
  unfold freeSlot
  cases hf : (List.range Config.queueSlots).find? (fun n => q.all fun d => decide (d.slot ≠ n)) with
  | none =>
    have used : List.range 16 ⊆ q.map (·.slot) := by
      intro n hn
      have := List.find?_eq_none.1 hf n hn
      simp only [List.all_eq_true, decide_eq_true_eq, not_forall, Decidable.not_not] at this
      obtain ⟨d, hd, hs⟩ := this
      exact List.mem_map.2 ⟨d, hd, hs⟩
    have hle := (List.nodup_range.subperm used).length_le
    rw [List.length_range, List.length_map] at hle
    omega
  | some n =>
    have hall := List.find?_some hf
    simp only [List.all_eq_true, decide_eq_true_eq] at hall
    exact ⟨List.mem_range.1 (List.mem_of_find?_eq_some hf), hall⟩

/-- The slots of one queue. -/
def SlotsLawful (q : List Descriptor) : Prop := (q.map (·.slot)).Nodup ∧ ∀ d ∈ q, d.slot < 16

theorem slotsLawful_iff {q : List Descriptor} :
    SlotsLawful q ↔ (q.map (·.slot)).Nodup ∧ ∀ n ∈ q.map (·.slot), n < 16 := by
  simp [SlotsLawful]

theorem slotsLawful_of_submitted {q q' : List Descriptor} (h : q'.map Descriptor.submitted = q.map Descriptor.submitted)
    (hq : SlotsLawful q) : SlotsLawful q' := by
  rw [slotsLawful_iff] at hq ⊢
  rwa [map_eq_of_submitted (f := (·.slot)) (fun _ => rfl) h]

theorem slotsLawful_append {q : List Descriptor} {d : Descriptor} (hq : SlotsLawful q) (hlen : q.length < 16)
    (hd : d.slot = freeSlot q) : SlotsLawful (q ++ [d]) := by
  obtain ⟨hlt, hfree⟩ := freeSlot_free hlen
  obtain ⟨hnodup, hall⟩ := hq
  constructor
  · rw [List.map_append, List.nodup_append]
    refine ⟨hnodup, List.nodup_singleton _, fun n hn m hm => ?_⟩
    obtain ⟨e, he, rfl⟩ := List.mem_map.1 hn
    rw [List.map_singleton, List.mem_singleton] at hm
    rw [hm, hd]
    exact hfree e he
  · intro e he
    obtain he | he := List.mem_append.1 he
    · exact hall e he
    · rw [List.mem_singleton.1 he, hd]
      exact hlt

theorem SlotsLawful.tail {q : List Descriptor} {d : Descriptor} (h : SlotsLawful (d :: q)) : SlotsLawful q := by
  obtain ⟨hnodup, hall⟩ := h
  rw [List.map_cons] at hnodup
  exact ⟨hnodup.of_cons, fun e he => hall e (List.mem_cons_of_mem _ he)⟩

theorem CoreMove.slotLaw {s t : State} (h : CoreMove s t) (hs : SlotLaw s) : SlotLaw t := by
  change ∀ x, SlotsLawful (t.seg x).queue
  change ∀ x, SlotsLawful (s.seg x).queue at hs
  rcases h.held_cases with ⟨hsame, -⟩ | ⟨hc, rfl⟩ | ⟨y, hr⟩ | ⟨hnil, -⟩
  · exact fun x => slotsLawful_of_submitted (hsame x) (hs x)
  · obtain ⟨-, -, -, -, -, -, -, hlen⟩ := submitChecks_pass hc
    rw [submit_eq]
    exact forall_seg_setSeg (Q := fun _ g => SlotsLawful g.queue) hs (slotsLawful_append (hs _) hlen rfl)
  · obtain ⟨d, rest, c, hq, -, -, rfl⟩ := retirement_cases hr
    refine forall_seg_setSeg (Q := fun _ g => SlotsLawful g.queue) hs (SlotsLawful.tail (d := d) ?_)
    rw [← hq]
    exact hs y
  · exact fun x => by simp [hnil, SlotsLawful]

/-! ### Pages -/

theorem heldPages_of_submitted {s t : State}
    (h : ∀ x, (t.seg x).queue.map Descriptor.submitted = (s.seg x).queue.map Descriptor.submitted) :
    heldPages t = heldPages s := by
  have page (q : List Descriptor) : q.filterMap (·.page) = (q.map (·.page)).filterMap id := by simp [List.filterMap_map]
  have same (x : Seg) : (t.seg x).queue.map (·.page) = (s.seg x).queue.map (·.page) :=
    map_eq_of_submitted (f := (·.page)) (fun _ => rfl) (h x)
  have hA := same .a
  have hB := same .b
  rw [State.seg_a, State.seg_a] at hA
  rw [State.seg_b, State.seg_b] at hB
  rw [heldPages, heldPages, page, page, List.map_append, List.map_append, hA, hB]

theorem heldPages_append {s : State} {x : Seg} {d : Descriptor} :
    (heldPages (s.setSeg x { s.seg x with queue := (s.seg x).queue ++ [d] })).Perm (d.page.toList ++ heldPages s) := by
  have hd : [d].filterMap (·.page) = d.page.toList := by cases hp : d.page <;> simp [hp]
  cases x
  · simp only [heldPages, State.setSeg, State.seg_a, List.filterMap_append, hd, List.append_assoc]
    exact List.perm_append_comm_assoc ..
  · simp only [heldPages, State.setSeg, State.seg_b, List.filterMap_append, hd]
    rw [← List.append_assoc]
    exact List.perm_append_comm

theorem heldPages_cons {s : State} {x : Seg} {d : Descriptor} {rest : List Descriptor} (h : (s.seg x).queue = d :: rest) :
    (heldPages s).Perm (d.page.toList ++ heldPages (s.setSeg x { s.seg x with queue := rest })) := by
  have hd : (d :: rest).filterMap (·.page) = d.page.toList ++ rest.filterMap (·.page) := by
    cases hp : d.page <;> simp [hp]
  cases x
  · rw [State.seg_a] at h
    simp only [heldPages, State.setSeg, List.filterMap_append, h, hd, List.append_assoc]
    exact List.Perm.refl _
  · rw [State.seg_b] at h
    simp only [heldPages, State.setSeg, List.filterMap_append, h, hd]
    exact List.perm_append_comm_assoc ..

theorem setHolder_get (v : Vector (Option Holder) 32) (page : Option (Fin 32)) (h : Option Holder) (p : Fin 32) :
    (setHolder v page h).get p = if page = some p then h else v.get p := by
  cases page with
  | none => simp [setHolder]
  | some q =>
    simp only [setHolder, vset_get, Option.some.injEq]
    exact if_congr eq_comm rfl rfl

theorem eq_of_submitted {α : Type} {f : Descriptor → α} (hf : ∀ d, f d.submitted = f d) {d e : Descriptor}
    (h : d.submitted = e.submitted) : f d = f e := by rw [← hf d, ← hf e, h]

theorem pageLaw_of_sameHeld {s t : State} (h : SameHeld s t) (hp : PageLaw s) : PageLaw t := by
  obtain ⟨hsame, hh⟩ := h
  obtain ⟨hnodup, hlent, hholder⟩ := hp
  refine ⟨by rwa [heldPages_of_submitted hsame], fun p => ?_, fun p h hph => ?_⟩
  · rw [heldPages_of_submitted hsame, ← hlent, lent, lent, hh]
  · rw [hh] at hph
    obtain ⟨d, hd, hpage, hslot⟩ := hholder p h hph
    have hmem := List.mem_map_of_mem (f := Descriptor.submitted) hd
    rw [← hsame, List.mem_map] at hmem
    obtain ⟨d', hd', hsub⟩ := hmem
    exact ⟨d', hd', (eq_of_submitted (f := (·.page)) (fun _ => rfl) hsub).trans hpage,
      (eq_of_submitted (f := (·.slot)) (fun _ => rfl) hsub).trans hslot⟩

/-- The page of an accepted descriptor is lent to no other. -/
theorem page_free_of_submitChecks {s : State} (hc : firstFailing (submitChecks s) = none) {q : List Descriptor} {p : Fin 32}
    (hp : (acceptedDescriptor s q).page = some p) : lent s p = false := by
  obtain ⟨-, -, -, -, -, -, hfree, -⟩ := submitChecks_pass hc
  simp only [acceptedDescriptor, Option.ite_none_right_eq_some, Option.some.injEq] at hp
  obtain ⟨huses, rfl⟩ := hp
  exact hfree huses

theorem pageLaw_submit {s : State} (hc : firstFailing (submitChecks s) = none) (hp : PageLaw s) : PageLaw (submit s) := by
  obtain ⟨hnodup, hlent, hholder⟩ := hp
  have hfree := fun p => page_free_of_submitChecks (p := p) hc (q := (s.seg (stagedEntry s).cfg.segment).queue)
  rw [submit_eq]
  generalize (stagedEntry s).cfg.segment = x at hfree ⊢
  generalize acceptedDescriptor s (s.seg x).queue = d at hfree ⊢
  have hperm := heldPages_append (s := s) (x := x) (d := d)
  have hnot : ∀ p ∈ d.page.toList, p ∉ heldPages s := fun p hpd hps => by
    have := hfree p (Option.mem_toList.1 hpd)
    rw [(hlent p).2 hps] at this
    cases this
  refine ⟨?_, fun p => ?_, fun p h hph => ?_⟩
  · refine (List.Perm.nodup_iff hperm).2 (List.nodup_append.2 ⟨?_, hnodup, fun p hpd q hqs e => hnot p hpd (e ▸ hqs)⟩)
    cases d.page <;> simp
  · refine Iff.trans ?_ (List.Perm.mem_iff hperm).symm
    rw [List.mem_append, ← hlent, Option.mem_toList]
    show ((setHolder s.holders d.page _).get p).isSome = true ↔ _
    rw [setHolder_get]
    split
    · next hd => simp [hd]
    · next hd => simp [hd, lent]
  · change (setHolder s.holders d.page _).get p = some h at hph
    rw [setHolder_get] at hph
    have grown : ∀ e ∈ (s.seg h.seg).queue, e ∈ ((s.setSeg x { s.seg x with queue := (s.seg x).queue ++ [d] }).seg h.seg).queue := by
      intro e he
      rw [State.seg_setSeg]
      split
      · next hx => exact List.mem_append_left _ (hx ▸ he)
      · exact he
    split at hph
    · next hd =>
      cases hph
      refine ⟨d, ?_, hd, rfl⟩
      show d ∈ ((s.setSeg x _).seg x).queue
      rw [State.seg_setSeg_same]
      exact List.mem_append_right _ (List.mem_singleton_self d)
    · obtain ⟨e, he, hpage, hslot⟩ := hholder p h hph
      exact ⟨e, grown e he, hpage, hslot⟩

theorem pageLaw_retirement {x : Seg} {s t : State} (hr : retirement x s = some t) (hp : PageLaw s) : PageLaw t := by
  obtain ⟨hnodup, hlent, hholder⟩ := hp
  obtain ⟨d, rest, c, hq, -, -, rfl⟩ := retirement_cases hr
  have hperm := heldPages_cons hq
  obtain ⟨-, hrest, hnot⟩ := List.nodup_append.1 ((List.Perm.nodup_iff hperm).1 hnodup)
  refine ⟨hrest, fun p => ?_, fun p h hph => ?_⟩
  · have hmem := (List.Perm.mem_iff (a := p) hperm)
    rw [List.mem_append, ← hlent, Option.mem_toList] at hmem
    show ((setHolder s.holders d.page none).get p).isSome = true ↔ p ∈ heldPages (s.setSeg x { s.seg x with queue := rest })
    rw [setHolder_get]
    split
    · next hd =>
      refine iff_of_false (by simp) fun hp => ?_
      exact hnot p (Option.mem_toList.2 hd) p hp rfl
    · next hd => exact hmem.trans (or_iff_right hd)
  · change (setHolder s.holders d.page none).get p = some h at hph
    rw [setHolder_get] at hph
    split at hph
    · cases hph
    · next hd =>
      obtain ⟨e, he, hpage, hslot⟩ := hholder p h hph
      refine ⟨e, ?_, hpage, hslot⟩
      show e ∈ ((s.setSeg x { s.seg x with queue := rest }).seg h.seg).queue
      rw [State.seg_setSeg]
      split
      · next hx =>
        rw [hx, hq] at he
        obtain rfl | he := List.mem_cons.1 he
        · exact absurd hpage hd
        · exact he
      · exact he

theorem pageLaw_of_nothing {s : State} (hnil : ∀ x, (s.seg x).queue = []) (hh : s.holders = Vector.replicate 32 none) :
    PageLaw s := by
  have hA := hnil .a
  have hB := hnil .b
  rw [State.seg_a] at hA
  rw [State.seg_b] at hB
  have hpages : heldPages s = [] := by rw [heldPages, hA, hB]; rfl
  have hnone (p : Fin 32) : s.holders.get p = none := by simp [hh, Vector.get_eq_getElem]
  refine ⟨by simp [hpages], fun p => by simp [hpages, lent, hnone], fun p h hph => ?_⟩
  rw [hnone] at hph
  cases hph

theorem CoreMove.pageLaw {s t : State} (h : CoreMove s t) (hp : PageLaw s) : PageLaw t := by
  rcases h.held_cases with hsame | ⟨hc, rfl⟩ | ⟨y, hr⟩ | ⟨hnil, hh⟩
  · exact pageLaw_of_sameHeld hsame hp
  · exact pageLaw_submit hc hp
  · exact pageLaw_retirement hr hp
  · exact pageLaw_of_nothing hnil hh

theorem SlotLaw.bare (s : State) : SlotLaw s.bare ↔ SlotLaw s := forall_congr' fun x => by cases x <;> exact Iff.rfl

theorem PageLaw.bare (s : State) : PageLaw s.bare ↔ PageLaw s := by
  have hq (x : Seg) : (s.bare.seg x).queue = (s.seg x).queue := by cases x <;> rfl
  unfold PageLaw
  simp only [hq]
  exact Iff.rfl

/-- Settles O11: every move keeps both laws. -/
theorem stepKeepsPageLaws : Obligations.StepKeepsPageLaws := by
  unfold Obligations.StepKeepsPageLaws
  intro s t h hstep
  exact step_keeps (P := fun s => PageLaw s ∧ SlotLaw s)
    (Move.keeps_of_core (fun s => and_congr (PageLaw.bare s) (SlotLaw.bare s)) fun _ _ hm ⟨hp, hs⟩ =>
      ⟨hm.pageLaw hp, hm.slotLaw hs⟩) hstep h

end Sys2Proof.Machine
end

section
/-! SUPPORT. The laws of work: what one segment may have in flight, its head and its reports (R31 to R33, R75, R108). -/

namespace Sys2Proof.Machine

/-! ### What a segment has in flight -/

/-- The states that carry a transaction. -/
def SegState.Carries (st : SegState) : Prop := st = .busy ∨ st = .pausingTxn

/-- The states that carry a recovery. -/
def SegState.Recovers (st : SegState) : Prop := st = .recovery ∨ st = .pausingRec

/-- A segment with nothing in flight, but not DISABLED. -/
def SegState.Free (st : SegState) : Prop := st = .ready ∨ st = .paused ∨ st = .halted

theorem SegState.Recovers.not_carries {st : SegState} (h : st.Recovers) : ¬ st.Carries := by
  rcases h with rfl | rfl <;> exact (by simp [SegState.Carries])

theorem SegState.Free.not_carries {st : SegState} (h : st.Free) : ¬ st.Carries := by
  rcases h with rfl | rfl | rfl <;> simp [SegState.Carries]

theorem SegState.Free.not_recovers {st : SegState} (h : st.Free) : ¬ st.Recovers := by
  rcases h with rfl | rfl | rfl <;> simp [SegState.Recovers]

/-- What one segment may have in flight by its state: `loads` says that a loader read may be in flight on it, `up` that RSTn
is high. -/
structure Segment.Carried (g : Segment) (loads up : Prop) : Prop where
  carries : ∀ it, g.item = some it →
    (it.supplier = .loader ∧ loads ∧ g.state = .disabled) ∨ (it.supplier ≠ .loader ∧ g.state.Carries)
  stops : ∀ it, g.item = some it → it.StopsForNoFault
  stands : ∀ it, g.item = some it → it.Stands
  recovers : ∀ r, g.recovery = some r → g.state.Recovers
  works : up → g.state.Carries → g.item.isSome = true
  recovering : up → g.state.Recovers → g.recovery.isSome = true

theorem Segment.Carried.no_recovery {g : Segment} {loads up : Prop} (h : g.Carried loads up) (hs : ¬ g.state.Recovers) :
    g.recovery = none := by
  by_contra hne
  obtain ⟨r, hr⟩ := Option.ne_none_iff_exists'.1 hne
  exact hs (h.recovers r hr)

theorem Segment.Carried.no_item {g : Segment} {loads up : Prop} (h : g.Carried loads up) (hs : ¬ g.state.Carries)
    (hd : g.state ≠ .disabled ∨ ¬ loads) : g.item = none := by
  by_contra hne
  obtain ⟨it, hit⟩ := Option.ne_none_iff_exists'.1 hne
  rcases h.carries it hit with ⟨-, hl, hst⟩ | ⟨-, hst⟩
  · exact hd.elim (fun hn => hn hst) (fun hn => hn hl)
  · exact hs hst

/-- With no record and no recovery, in a state that carries neither. -/
theorem Segment.carried_of_nothing {g : Segment} {loads up : Prop} (hi : g.item = none) (hr : g.recovery = none)
    (hc : ¬ g.state.Carries) (hs : ¬ g.state.Recovers) : g.Carried loads up where
  carries it hit := by rw [hi] at hit; cases hit
  stops it hit := by rw [hi] at hit; cases hit
  stands it hit := by rw [hi] at hit; cases hit
  recovers r h := by rw [hr] at h; cases h
  works _ h := absurd h hc
  recovering _ h := absurd h hs

theorem Segment.carried_of_free {g : Segment} {loads up : Prop} (hi : g.item = none) (hr : g.recovery = none)
    (hs : g.state.Free) : g.Carried loads up :=
  Segment.carried_of_nothing hi hr hs.not_carries hs.not_recovers

/-- A segment that carries one transaction of its own. -/
theorem Segment.carried_of_item {g : Segment} {loads up : Prop} {it : Item} (hi : g.item = some it) (hr : g.recovery = none)
    (hs : g.state.Carries) (hsup : it.supplier ≠ .loader) (hstop : it.StopsForNoFault) (hstands : it.Stands) :
    g.Carried loads up where
  carries j hj := by rw [hi] at hj; cases hj; exact .inr ⟨hsup, hs⟩
  stops j hj := by rw [hi] at hj; cases hj; exact hstop
  stands j hj := by rw [hi] at hj; cases hj; exact hstands
  recovers r h := by rw [hr] at h; cases h
  works _ _ := by rw [hi]; rfl
  recovering _ h := absurd hs h.not_carries

/-- A segment in recovery. -/
theorem Segment.carried_of_recovery {g : Segment} {loads up : Prop} {r : Recovery} (hi : g.item = none)
    (hr : g.recovery = some r) (hs : g.state.Recovers) : g.Carried loads up where
  carries it hit := by rw [hi] at hit; cases hit
  stops it hit := by rw [hi] at hit; cases hit
  stands it hit := by rw [hi] at hit; cases hit
  recovers _ _ := hs
  works _ h := absurd h hs.not_carries
  recovering _ _ := by rw [hr]; rfl

/-- A change of state alone that carries the same work. -/
theorem Segment.Carried.withState {g : Segment} {loads up : Prop} {st : SegState} (h : g.Carried loads up)
    (hc : st.Carries ↔ g.state.Carries) (hr : st.Recovers ↔ g.state.Recovers) (hd : g.state = .disabled → st = .disabled) :
    { g with state := st }.Carried loads up where
  carries it hit := (h.carries it hit).imp (fun ⟨hs, hl, hst⟩ => ⟨hs, hl, hd hst⟩) (fun ⟨hs, hst⟩ => ⟨hs, hc.2 hst⟩)
  stops := h.stops
  stands := h.stands
  recovers r hrec := hr.2 (h.recovers r hrec)
  works hup hst := h.works hup (hc.1 hst)
  recovering hup hst := h.recovering hup (hr.1 hst)

theorem SegState.pause_carries (st : SegState) : st.pause.Carries ↔ st.Carries := by
  cases st <;> simp [SegState.pause, SegState.Carries]

theorem SegState.pause_recovers (st : SegState) : st.pause.Recovers ↔ st.Recovers := by
  cases st <;> simp [SegState.pause, SegState.Recovers]

theorem SegState.resume_carries (st : SegState) : st.resume.Carries ↔ st.Carries := by
  cases st <;> simp [SegState.resume, SegState.Carries]

theorem SegState.resume_recovers (st : SegState) : st.resume.Recovers ↔ st.Recovers := by
  cases st <;> simp [SegState.resume, SegState.Recovers]

theorem SegState.recovered_free {st : SegState} (h : st.Recovers) : st.recovered.Free := by
  rcases h with h | h <;> simp [h, SegState.recovered, SegState.Free]

theorem SegState.halt_free {st : SegState} (h : st.Recovers) : st.halt.Free := by
  rcases h with h | h <;> simp [h, SegState.halt, SegState.Free]

theorem SegState.afterTransaction_free {st : SegState} (h : st.Carries) : (st.afterTransaction false).Free := by
  rcases h with h | h <;> simp [h, SegState.afterTransaction, SegState.Free]

theorem SegState.afterTransaction_recovers {st : SegState} (h : st.Carries) : (st.afterTransaction true).Recovers := by
  rcases h with h | h <;> simp [h, SegState.afterTransaction, SegState.Recovers]

theorem handOut_item (g : Segment) (it : Item) (o : TxOutcome) : (g.handOut it o).item = none := by
  obtain ⟨-, -, -, -, -, -, -, h⟩ := handOut_frame g it o
  exact h

theorem handOut_recovery (g : Segment) (it : Item) (o : TxOutcome) : (g.handOut it o).recovery = g.recovery := by
  obtain ⟨-, -, -, -, h, -⟩ := handOut_frame g it o
  exact h

theorem Segment.Carried.carries_of_item {g : Segment} {loads up : Prop} {it : Item} (h : g.Carried loads up)
    (hit : g.item = some it) (hs : it.supplier ≠ .loader) : g.state.Carries :=
  (h.carries it hit).elim (fun ⟨hl, _⟩ => absurd hl hs) And.right

theorem SegState.Carries.not_recovers {st : SegState} (h : st.Carries) : ¬ st.Recovers := fun hr => hr.not_carries h

/-- A segment that is READY has nothing in flight. -/
theorem Segment.Carried.of_ready {g : Segment} {loads up : Prop} (h : g.Carried loads up) (hs : g.state = .ready) :
    g.item = none ∧ g.recovery = none := by
  have hf : g.state.Free := .inl hs
  exact ⟨h.no_item hf.not_carries (.inl (by rw [hs]; nofun)), h.no_recovery hf.not_recovers⟩

theorem Item.granted_stands (t : Target) (i : Fin 32) (supplier : Supplier) (form : Form) (now : Tick) :
    (Item.granted t i supplier form now).Stands ∧ (Item.granted t i supplier form now).StopsForNoFault :=
  Item.stands_of_opening rfl rfl

theorem SegMove.carried {g g' : Segment} {loads up : Prop} (h : SegMove g g') (hg : g.Carried loads up) :
    g'.Carried loads up := by
  have granted {t : Target} {i : Fin 32} {sup : Supplier} {form : Form} {now : Tick} (hs : g.state = .ready)
      (hi : g'.item = some (.granted t i sup form now)) (hsup : sup ≠ .loader) (hr : g'.recovery = g.recovery)
      (hb : g'.state = .busy) : g'.Carried loads up := by
    obtain ⟨hstands, hstop⟩ := Item.granted_stands t i sup form now
    exact Segment.carried_of_item hi (hr.trans (hg.of_ready hs).2) (.inl hb) hsup hstop hstands
  cases h with
  | pause hd => exact hg.withState (SegState.pause_carries _) (SegState.pause_recovers _) fun h => absurd h hd
  | resume => exact hg.withState (SegState.resume_carries _) (SegState.resume_recovers _) fun h => by rw [h]; rfl
  | reports | queue | headFinished | headRefused => exact { hg with }
  | @item it it' hit hk =>
    exact { hg with
      carries := fun j hj => by cases hj; rw [hk.supplier]; exact hg.carries it hit
      stops := fun j hj => by cases hj; exact hk.stops (hg.stops it hit)
      stands := fun j hj => by cases hj; exact hk.stands (hg.stands it hit)
      works := fun _ _ => rfl }
  | closed hit hk hs ho =>
    have hc := hg.carries_of_item hit hs
    refine Segment.carried_of_free (handOut_item ..) ((handOut_recovery ..).trans (hg.no_recovery hc.not_recovers)) ?_
    show (SegState.afterTransaction _ _).Free
    rw [ho (hg.stops _ hit)]
    exact SegState.afterTransaction_free hc
  | faulted now hit hk hs =>
    exact Segment.carried_of_recovery (handOut_item ..) rfl (SegState.afterTransaction_recovers (hg.carries_of_item hit hs))
  | sampled hr hk => exact { hg with recovers := fun _ _ => hg.recovers _ hr, recovering := fun _ _ => rfl }
  | recovered hr =>
    have hrec := hg.recovers _ hr
    have hf := SegState.recovered_free hrec
    refine Segment.carried_of_free (hg.no_item hrec.not_carries (.inl ?_)) rfl hf
    rcases hrec with h | h <;> (rw [h]; nofun)
  | halted hr =>
    have hrec := hg.recovers _ hr
    refine Segment.carried_of_free (hg.no_item hrec.not_carries (.inl ?_)) rfl (SegState.halt_free hrec)
    rcases hrec with h | h <;> (rw [h]; nofun)
  | recover now hh =>
    have hf : g.state.Free := .inr (.inr hh)
    exact Segment.carried_of_recovery (hg.no_item hf.not_carries (.inl (by rw [hh]; nofun))) rfl (.inl rfl)
  | grantHead t now hs => exact granted hs rfl nofun rfl rfl
  | grantPoll t i entry grant register width now hs => exact granted hs rfl nofun rfl rfl
  | grantAlert t i register now hs => exact granted hs rfl nofun rfl rfl
  | disable hs =>
    have hf : g.state.Free := hs
    have hd : g.state ≠ .disabled := by rcases hs with h | h | h <;> (rw [h]; nofun)
    exact Segment.carried_of_nothing (hg.no_item hf.not_carries (.inl hd)) (hg.no_recovery hf.not_recovers)
      (by simp [SegState.Carries]) (by simp [SegState.Recovers])

/-! ### The head of a queue -/

/-- Whether a descriptor's item is in flight. -/
def Segment.QueueItem (g : Segment) : Prop := ∃ it, g.item = some it ∧ it.supplier = .queue

/-- ACTIVE and FINISHED at the head alone, an ACTIVE head together with its item or its report (R31 to R33). -/
structure Segment.Headed (g : Segment) (up : Prop) : Prop where
  behind : ∀ d ∈ g.queue.tail, d.state = .queued ∨ d.state = .cancelled ∨ d.state = .expired
  reported : g.headReport.isSome = true → headActive g = true
  queued : g.QueueItem → headActive g = true ∧ g.headReport = none
  active : up → headActive g = true → g.headReport.isSome = true ∨ g.QueueItem

theorem headActive_congr {g g' : Segment} (h : g'.queue = g.queue) : headActive g' = headActive g := by
  unfold headActive
  rw [h]

theorem headActive_cons {g : Segment} {d : Descriptor} {rest : List Descriptor} (h : g.queue = d :: rest) :
    headActive g = decide (d.state = .active) := by
  unfold headActive
  rw [h]

theorem Segment.Headed.congr {g g' : Segment} {up : Prop} (h : g.Headed up) (hq : g'.queue = g.queue)
    (hr : g'.headReport = g.headReport) (hi : g'.QueueItem ↔ g.QueueItem) : g'.Headed up := by
  constructor
  · rw [hq]; exact h.behind
  · rw [hr, headActive_congr hq]; exact h.reported
  · rw [hr, headActive_congr hq, hi]; exact h.queued
  · rw [hr, headActive_congr hq, hi]; exact h.active

/-- No head is ACTIVE, and nothing of one is in flight or waits. -/
theorem Segment.headed_of_inactive {g : Segment} {up : Prop}
    (hb : ∀ d ∈ g.queue.tail, d.state = .queued ∨ d.state = .cancelled ∨ d.state = .expired) (ha : headActive g = false)
    (hr : g.headReport = none) (hi : ¬ g.QueueItem) : g.Headed up where
  behind := hb
  reported h := by rw [hr] at h; cases h
  queued h := absurd h hi
  active _ h := by rw [ha] at h; cases h

theorem Segment.Headed.nothing_of_inactive {g : Segment} {up : Prop} (h : g.Headed up) (ha : headActive g = false) :
    g.headReport = none ∧ ¬ g.QueueItem := by
  refine ⟨?_, fun hi => ?_⟩
  · by_contra hne
    have := h.reported (Option.isSome_iff_ne_none.2 hne)
    rw [ha] at this
    cases this
  · have := (h.queued hi).1
    rw [ha] at this
    cases this

/-- Handing out the reports of a descriptor's item leaves its report; those of any other leave the head's as it was. -/
theorem handOut_headReport (g : Segment) (it : Item) (o : TxOutcome) :
    (it.supplier = .queue ∧ (g.handOut it o).headReport.isSome = true) ∨
    (it.supplier ≠ .queue ∧ (g.handOut it o).headReport = g.headReport) := by
  unfold Segment.handOut Segment.report
  cases hs : it.supplier <;> cases it.target <;> cases it.detached <;> simp

theorem Segment.Headed.handOut {g g' : Segment} {up : Prop} {it it' : Item} {o : TxOutcome} (h : g.Headed up)
    (hit : g.item = some it) (hs : it'.supplier = it.supplier) (hq : g'.queue = (g.handOut it' o).queue)
    (hr : g'.headReport = (g.handOut it' o).headReport) (hi : g'.item = (g.handOut it' o).item) : g'.Headed up := by
  have hqueue : g'.queue = g.queue := hq.trans (handOut_queue ..)
  have hno : ¬ g'.QueueItem := by
    rintro ⟨j, hj, -⟩
    rw [hi, handOut_item] at hj
    cases hj
  rcases handOut_headReport g it' o with ⟨hsup, hsome⟩ | ⟨hsup, hsame⟩
  · have hact : headActive g' = true := by
      rw [headActive_congr hqueue]
      exact (h.queued ⟨it, hit, hs.symm.trans hsup⟩).1
    exact ⟨by rw [hqueue]; exact h.behind, fun _ => hact, fun hi => absurd hi hno, fun _ _ => .inl (by rw [hr]; exact hsome)⟩
  · refine h.congr hqueue (hr.trans hsame) (iff_of_false hno ?_)
    rintro ⟨j, hj, hjs⟩
    rw [hit] at hj
    cases hj
    exact hsup (hs.trans hjs)

theorem Descriptor.Settles.behind {d d' : Descriptor} (h : d.Settles d')
    (hd : d.state = .queued ∨ d.state = .cancelled ∨ d.state = .expired) :
    d'.state = .queued ∨ d'.state = .cancelled ∨ d'.state = .expired := by
  obtain ⟨st, cut, rfl, rfl | ⟨-, h⟩⟩ := h
  · exact hd
  · exact .inr h

theorem Descriptor.Settles.active_iff {d d' : Descriptor} (h : d.Settles d') : d'.state = .active ↔ d.state = .active := by
  obtain ⟨st, cut, rfl, rfl | ⟨hq, rfl | rfl⟩⟩ := h
  · exact Iff.rfl
  · simp [hq]
  · simp [hq]

theorem forall₂_tail {α β : Type} {R : α → β → Prop} {l : List α} {m : List β} (h : List.Forall₂ R l m) :
    List.Forall₂ R l.tail m.tail := by
  cases h with
  | nil => exact .nil
  | cons _ ht => exact ht

theorem Segment.Headed.settle {g : Segment} {q : List Descriptor} {up : Prop} (h : g.Headed up)
    (hq : List.Forall₂ Descriptor.Settles g.queue q) : { g with queue := q }.Headed up := by
  have hact : headActive { g with queue := q } = headActive g := by
    generalize hgq : g.queue = p at hq
    cases hq with
    | nil => unfold headActive; rw [hgq]
    | cons hd => rw [headActive_cons hgq, headActive_cons (g := { g with queue := _ }) rfl]; simp [hd.active_iff]
  constructor
  · intro d' hd'
    have htail := forall₂_tail hq
    obtain ⟨i, hi, rfl⟩ := List.mem_iff_getElem.1 hd'
    have hlen := htail.length_eq
    change i < q.tail.length at hi
    exact (htail.get (i := i) (by omega) hi).behind (h.behind _ (List.getElem_mem _))
  · rw [hact]; exact h.reported
  · rw [hact]; exact h.queued
  · rw [hact]; exact h.active

theorem SegMove.headed {g g' : Segment} {up : Prop} (h : SegMove g g') (hidle : g.state = .ready → g.item = none)
    (hg : g.Headed up) : g'.Headed up := by
  cases h with
  | pause | resume | reports | sampled | recovered | halted | recover | disable => exact hg.congr rfl rfl Iff.rfl
  | @item it it' hit hk =>
    refine hg.congr rfl rfl ?_
    simp [Segment.QueueItem, hit, hk.supplier]
  | closed hit hk hs ho => exact hg.handOut hit hk.supplier rfl rfl rfl
  | faulted now hit hk hs => exact hg.handOut hit hk.supplier rfl rfl rfl
  | queue h => exact hg.settle h
  | @headFinished r d rest hr hq hd =>
    have hb := hg.behind
    rw [hq] at hb
    refine Segment.headed_of_inactive hb rfl rfl fun hi => ?_
    have := (hg.queued hi).2
    rw [hr] at this
    cases this
  | @headRefused d rest hs hq hd =>
    have hb := hg.behind
    rw [hq] at hb
    obtain ⟨hr, hi⟩ := hg.nothing_of_inactive (by rw [headActive_cons hq, hd]; rfl)
    exact Segment.headed_of_inactive hb rfl hr hi
  | @grantHead d rest t now hs hq hd =>
    have hb := hg.behind
    rw [hq] at hb
    obtain ⟨hr, hi⟩ := hg.nothing_of_inactive (by rw [headActive_cons hq, hd]; rfl)
    exact ⟨hb, fun _ => rfl, fun _ => ⟨rfl, hr⟩, fun _ _ => .inr ⟨_, rfl, rfl⟩⟩
  | grantPoll t i entry grant register width now hs =>
    refine hg.congr rfl rfl (iff_of_false (fun ⟨_, hj, hjs⟩ => by cases hj; cases hjs) fun ⟨_, hj, _⟩ => ?_)
    rw [hidle hs] at hj
    cases hj
  | grantAlert t i register now hs =>
    refine hg.congr rfl rfl (iff_of_false (fun ⟨_, hj, hjs⟩ => by cases hj; cases hjs) fun ⟨_, hj, _⟩ => ?_)
    rw [hidle hs] at hj
    cases hj

/-! ### O14 -/

/-- The laws of work of one segment. -/
def Segment.WorkLawful (g : Segment) (loads up : Prop) : Prop :=
  g.Carried loads up ∧ g.Headed up ∧ (g.state = .disabled → g.queue = [])

/-- Whether a loader read may be in flight on a segment. -/
def LoadsOn (s : State) (x : Seg) : Prop := x = .a ∧ s.loader.state = .loading ∧ s.loader.report = none

/-- The laws of work of both segments. -/
def Works (s : State) : Prop := ∀ x, (s.seg x).WorkLawful (LoadsOn s x) (s.rstnLow = false)

theorem segmentWork_iff (s : State) (x : Seg) :
    SegmentWork s x ↔ (s.seg x).Carried (LoadsOn s x) (s.rstnLow = false) := by
  constructor
  · rintro ⟨hc, hstops, hstands, hrec, hw, hr⟩
    refine ⟨fun it hit => ?_, fun it hit o ho => hstops it o hit ho, hstands, hrec, hw, hr⟩
    exact (hc it hit).imp_left fun ⟨hs, hx, hl, hn, hd⟩ => ⟨hs, ⟨hx, hl, hn⟩, hd⟩
  · intro h
    refine ⟨fun it hit => ?_, fun it o hit ho => h.stops it hit o ho, h.stands, h.recovers, h.works, h.recovering⟩
    exact (h.carries it hit).imp_left fun ⟨hs, ⟨hx, hl, hn⟩, hd⟩ => ⟨hs, hx, hl, hn, hd⟩

theorem works_iff (s : State) : WorkLaw s ∧ HeadLaw s ∧ ActiveLaw s ∧ DisabledEmpty s ↔ Works s := by
  constructor
  · rintro ⟨hw, hh, ha, he⟩ x
    obtain ⟨hrep, hq, hact⟩ := ha x
    exact ⟨(segmentWork_iff s x).1 (hw x), ⟨hh x, hrep, fun ⟨it, hit, hs⟩ => hq it hit hs, hact⟩, he x⟩
  · intro h
    refine ⟨fun x => (segmentWork_iff s x).2 (h x).1, fun x => (h x).2.1.behind, fun x => ?_, fun x => (h x).2.2⟩
    have hx := (h x).2.1
    exact ⟨hx.reported, fun it hit hs => hx.queued ⟨it, hit, hs⟩, hx.active⟩

theorem Segment.Carried.mono {g : Segment} {loads loads' up : Prop} (h : g.Carried loads up) (hl : loads → loads') :
    g.Carried loads' up :=
  { h with carries := fun it hit => (h.carries it hit).imp_left fun ⟨hs, hload, hd⟩ => ⟨hs, hl hload, hd⟩ }

theorem Segment.WorkLawful.mono {g : Segment} {loads loads' up : Prop} (h : g.WorkLawful loads up) (hl : loads → loads') :
    g.WorkLawful loads' up := ⟨h.1.mono hl, h.2⟩

/-- A segment that is not busy and has an empty queue, with nothing in flight or waiting. -/
theorem Segment.workLawful_of_idle {g : Segment} {loads up : Prop} (hi : g.item = none) (hr : g.recovery = none)
    (hs : g.state = .disabled ∨ g.state.Free) (hq : g.queue = []) (hh : g.headReport = none) : g.WorkLawful loads up := by
  refine ⟨?_, Segment.headed_of_inactive (by simp [hq]) (by unfold headActive; rw [hq]) hh ?_, fun _ => hq⟩
  · rcases hs with hs | hs
    · exact Segment.carried_of_nothing hi hr (by simp [hs, SegState.Carries]) (by simp [hs, SegState.Recovers])
    · exact Segment.carried_of_free hi hr hs
  · rintro ⟨it, hit, -⟩
    rw [hi] at hit
    cases hit

/-- A DISABLED segment without a loader read has nothing in flight or waiting. -/
theorem Segment.WorkLawful.of_disabled {g : Segment} {loads up : Prop} (h : g.WorkLawful loads up) (hd : g.state = .disabled)
    (hl : ¬ loads) : g.item = none ∧ g.recovery = none ∧ g.queue = [] ∧ g.headReport = none := by
  obtain ⟨hc, hh, he⟩ := h
  have hq := he hd
  exact ⟨hc.no_item (by simp [hd, SegState.Carries]) (.inr hl), hc.no_recovery (by simp [hd, SegState.Recovers]), hq,
    (hh.nothing_of_inactive (by unfold headActive; rw [hq])).1⟩

theorem SegState.pause_disabled {st : SegState} (h : st.pause = .disabled) : st = .disabled := by
  cases st <;> simp_all [SegState.pause]

theorem SegState.resume_disabled {st : SegState} (h : st.resume = .disabled) : st = .disabled := by
  cases st <;> simp_all [SegState.resume]

theorem SegState.recovered_disabled {st : SegState} (h : st.recovered = .disabled) : st = .disabled := by
  cases st <;> simp_all [SegState.recovered]

theorem SegState.halt_disabled {st : SegState} (h : st.halt = .disabled) : st = .disabled := by
  cases st <;> simp_all [SegState.halt]

theorem SegState.afterTransaction_disabled {st : SegState} {fault : Bool} (h : st.afterTransaction fault = .disabled) :
    st = .disabled := by
  cases st <;> cases fault <;> simp_all [SegState.afterTransaction]

/-- A segment is DISABLED by SEG_DISABLE alone, and then with an empty queue. -/
theorem SegMove.disabled {g g' : Segment} (h : SegMove g g') (hd : g'.state = .disabled) :
    g.state = .disabled ∨ g'.queue = [] := by
  cases h with
  | pause => exact .inl (SegState.pause_disabled hd)
  | resume => exact .inl (SegState.resume_disabled hd)
  | recovered => exact .inl (SegState.recovered_disabled hd)
  | halted => exact .inl (SegState.halt_disabled hd)
  | closed | faulted => exact .inl (SegState.afterTransaction_disabled hd)
  | reports | item | sampled | queue | headFinished | headRefused => exact .inl hd
  | recover | grantHead | grantPoll | grantAlert => cases hd
  | disable hs hq => exact .inr hq

theorem SegMove.workLawful {g g' : Segment} {loads up : Prop} (h : SegMove g g') (hg : g.WorkLawful loads up) :
    g'.WorkLawful loads up := by
  obtain ⟨hc, hh, he⟩ := hg
  refine ⟨h.carried hc, h.headed (fun hs => (hc.of_ready hs).1) hh, fun hd => ?_⟩
  exact (h.disabled hd).elim (fun hgd => (h.quiet ⟨hgd, he hgd⟩).2) id

theorem loadsOn_congr {s t : State} (hl : t.loader = s.loader) (x : Seg) : LoadsOn t x = LoadsOn s x := by
  unfold LoadsOn
  rw [hl]

theorem Works.setSeg {s : State} {x : Seg} {g : Segment} (h : Works s) (hg : g.WorkLawful (LoadsOn s x) (s.rstnLow = false)) :
    Works (s.setSeg x g) := by
  intro y
  rw [State.setSeg_rstnLow, loadsOn_congr (State.setSeg_loader ..)]
  exact forall_seg_setSeg (Q := fun y g => g.WorkLawful (LoadsOn s y) (s.rstnLow = false)) h hg y

theorem headActive_append {g : Segment} {d : Descriptor} (hd : d.state = .queued) :
    headActive { g with queue := g.queue ++ [d] } = headActive g := by
  unfold headActive
  cases g.queue with
  | nil => simp [hd]
  | cons => rfl

theorem Segment.WorkLawful.append {g : Segment} {loads up : Prop} {d : Descriptor} (h : g.WorkLawful loads up)
    (hd : d.state = .queued) (hst : g.state ≠ .disabled) : { g with queue := g.queue ++ [d] }.WorkLawful loads up := by
  obtain ⟨hc, hh, -⟩ := h
  refine ⟨{ hc with }, ⟨fun e he => ?_, ?_, ?_, ?_⟩, fun hdis => absurd hdis hst⟩
  · cases hq : g.queue with
    | nil => simp [hq] at he
    | cons f rest =>
      simp only [hq, List.cons_append, List.tail_cons, List.mem_append, List.mem_singleton] at he
      rcases he with he | rfl
      · exact hh.behind e (by rw [hq]; exact he)
      · exact .inl hd
  · rw [headActive_append hd]; exact hh.reported
  · rw [headActive_append hd]; exact hh.queued
  · rw [headActive_append hd]; exact hh.active

theorem Segment.WorkLawful.retire {g : Segment} {loads up : Prop} {d : Descriptor} {rest : List Descriptor}
    (h : g.WorkLawful loads up) (hq : g.queue = d :: rest) (hd : d.state ≠ .active) :
    { g with queue := rest }.WorkLawful loads up := by
  obtain ⟨hc, hh, he⟩ := h
  have hb := hh.behind
  rw [hq, List.tail_cons] at hb
  obtain ⟨hr, hi⟩ := hh.nothing_of_inactive (by rw [headActive_cons hq]; simp [hd])
  refine ⟨{ hc with }, Segment.headed_of_inactive (fun e he => hb e (List.mem_of_mem_tail he)) ?_ hr hi, fun hdis => ?_⟩
  · cases rest with
    | nil => rfl
    | cons e rest => rcases hb e List.mem_cons_self with hs | hs | hs <;> simp [headActive, hs]
  · have := he hdis
    rw [hq] at this
    cases this

theorem Descriptor.completion_settled {d : Descriptor} {now : Tick} {c : Completion} (h : d.completion now = some c) :
    d.state ≠ .active := by
  intro hd
  simp [Descriptor.completion, hd] at h

/-- A DISABLED segment with a loader read that begins. -/
theorem Segment.workLawful_of_piece {g : Segment} {loads up : Prop} {cfgadr : BitVec 2} {offset : Nat} {now : Tick}
    (hl : loads) (hi : g.item = some (.loaderPiece cfgadr offset now)) (hr : g.recovery = none) (hd : g.state = .disabled)
    (hq : g.queue = []) (hh : g.headReport = none) : g.WorkLawful loads up := by
  obtain ⟨hstands, hstops⟩ : (Item.loaderPiece cfgadr offset now).Stands ∧ (Item.loaderPiece cfgadr offset now).StopsForNoFault :=
    Item.stands_of_opening rfl rfl
  refine ⟨⟨fun it hit => ?_, fun it hit => ?_, fun it hit => ?_, fun r h => ?_, fun _ h => ?_, fun _ h => ?_⟩,
    Segment.headed_of_inactive (by simp [hq]) (by unfold headActive; rw [hq]) hh ?_, fun _ => hq⟩
  · rw [hi] at hit; cases hit; exact .inl ⟨rfl, hl, hd⟩
  · rw [hi] at hit; cases hit; exact hstops
  · rw [hi] at hit; cases hit; exact hstands
  · rw [hr] at h; cases h
  · simp [hd, SegState.Carries] at h
  · simp [hd, SegState.Recovers] at h
  · rintro ⟨it, hit, hs⟩
    rw [hi] at hit
    cases hit
    cases hs

/-- After RELOAD or the power-on reset nothing is in flight but a first loader read. -/
theorem works_of_emptied {s t : State}
    (h : t = reload s ∨ ∃ cfgen cfgadr fsel, t = powerOnReset cfgen cfgadr fsel s) : Works t := by
  intro x
  rcases seg_of_emptied h x with hx | ⟨rfl, hl, hx⟩
  · rw [hx]
    exact Segment.workLawful_of_idle rfl rfl (.inl rfl) rfl rfl
  · have hrep : t.loader.report = none := by
      rcases loader_of_emptied h with hl | hl <;> (rw [hl]; rfl)
    rw [hx]
    exact Segment.workLawful_of_piece ⟨rfl, hl, hrep⟩ rfl rfl rfl rfl rfl

theorem Segment.WorkLawful.commit {g : Segment} {loads loads' up : Prop} {c : Option (SegConfig × Bool)}
    (h : g.WorkLawful loads up) (hd : g.state = .disabled) (hl : ¬ loads) : (g.commit c).WorkLawful loads' up := by
  obtain ⟨hi, hr, hq, hh⟩ := h.of_disabled hd hl
  unfold Segment.commit
  split
  · split
    · exact Segment.workLawful_of_idle hi hr (.inr (.inl rfl)) hq hh
    · exact Segment.workLawful_of_idle hi hr (.inl hd) hq hh
  · exact Segment.workLawful_of_idle hi hr (.inl hd) hq hh

theorem Segment.WorkLawful.cutOff {g : Segment} {loads loads' up : Prop} (h : g.WorkLawful loads up) :
    g.cutOff.WorkLawful loads' (true = false) := by
  obtain ⟨-, hh, he⟩ := h
  refine ⟨⟨?_, ?_, ?_, ?_, ?_, ?_⟩, ⟨hh.behind, ?_, ?_, ?_⟩, he⟩
  · intro it h; cases h
  · intro it h; cases h
  · intro it h; cases h
  · intro r h; cases h
  · intro h; cases h
  · intro h; cases h
  · intro h; cases h
  · rintro ⟨it, h, -⟩; cases h
  · intro h; cases h

theorem not_loadsOn_of_report {s : State} {r : LoaderReport} (h : s.loader.report = some r) (x : Seg) : ¬ LoadsOn s x :=
  fun ⟨_, _, hn⟩ => by rw [h] at hn; cases hn

theorem CoreMove.works {s t : State} (h : CoreMove s t) (hq : LoadQuiet s) (hw : Works s) : Works t := by
  cases h with
  | same | pop | target | edit | polls => exact hw
  | pollEnable hl hoff => rw [pollEnable_of_disabled hoff]; exact hw
  | pollDisable hon => rw [pollDisable_of_enabled hon]; exact hw
  | submit hl hc =>
    obtain ⟨-, -, -, hd, -⟩ := submitChecks_pass hc
    rw [submit_eq]
    exact hw.setSeg ((hw _).append rfl hd)
  | retirement h =>
    obtain ⟨d, rest, c, hq, hc, -, rfl⟩ := retirement_cases h
    exact hw.setSeg ((hw _).retire hq (Descriptor.completion_settled hc))
  | seg h => exact hw.setSeg (h.workLawful (hw _))
  | @loaderEnd x it r hit hs =>
    obtain ⟨hc, hh, he⟩ := hw x
    obtain ⟨-, ⟨rfl, -⟩, hd⟩ | ⟨hne, -⟩ := hc.carries it hit
    · have hq := he hd
      refine fun
        | .a => Segment.workLawful_of_idle rfl (hc.no_recovery (by rw [hd]; simp [SegState.Recovers])) (.inl hd) hq
            (hh.nothing_of_inactive (by unfold headActive; rw [hq])).1
        | .b => (hw .b).mono fun ⟨hx, _⟩ => nomatch hx
    · exact absurd hs hne
  | @enable x hl hd =>
    have hn : ¬ LoadsOn s x := fun ⟨_, hload, _⟩ => hl hload
    obtain ⟨hi, hr, hq, hh⟩ := (hw x).of_disabled hd hn
    exact hw.setSeg (Segment.workLawful_of_idle hi hr (.inr (.inl rfl)) hq hh)
  | clearWork =>
    have idle (g : Segment) (loads up : Prop) : g.softReset.WorkLawful loads up := by
      refine Segment.workLawful_of_idle rfl rfl ?_ rfl rfl
      unfold Segment.softReset
      dsimp only
      split
      · exact .inl rfl
      · exact .inr (.inl rfl)
    exact fun | .a => idle _ _ _ | .b => idle _ _ _
  | reload => exact works_of_emptied (.inl rfl)
  | powerOnReset => exact works_of_emptied (.inr ⟨_, _, _, rfl⟩)
  | rstnLow => exact fun | .a => (hw .a).cutOff | .b => (hw .b).cutOff
  | @piece r bytes l hr hl hwalk =>
    obtain ⟨hst, hrep, -⟩ := hwalk.frame
    obtain ⟨-, hrec, hqueue, hhead⟩ := (hw .a).of_disabled (hq hl .a).1 (not_loadsOn_of_report hr .a)
    refine fun
      | .a => Segment.workLawful_of_piece ⟨rfl, hst.trans hl, hrep⟩ rfl hrec (hq hl .a).1 hqueue hhead
      | .b => (hw .b).mono fun hload => absurd hload (not_loadsOn_of_report hr .b)
  | fail reason hr => exact fun x => (hw x).mono fun hload => absurd hload (not_loadsOn_of_report hr x)
  | commit hr hl hwalk =>
    exact fun
      | .a => (hw .a).commit (hq hl .a).1 (not_loadsOn_of_report hr .a)
      | .b => (hw .b).commit (hq hl .b).1 (not_loadsOn_of_report hr .b)

theorem Works.bare (s : State) : Works s.bare ↔ Works s :=
  forall_congr' fun x => by
    cases x <;> exact ⟨fun ⟨hc, hh, he⟩ => ⟨{ hc with }, { hh with }, he⟩, fun ⟨hc, hh, he⟩ => ⟨{ hc with }, { hh with }, he⟩⟩

/-- Settles O14: every move keeps the laws of work, segment by segment. -/
theorem stepKeepsWorkLaws : Obligations.StepKeepsWorkLaws := by
  unfold Obligations.StepKeepsWorkLaws
  simp only [works_iff]
  intro s t h hstep
  exact step_keeps (P := fun s => LoadQuiet s ∧ Works s)
    (Move.keeps_of_core (fun s => and_congr (LoadQuiet.bare s) (Works.bare s)) fun _ _ hm ⟨hq, hw⟩ =>
      ⟨hm.loadQuiet hq, hm.works hq hw⟩) hstep h

end Sys2Proof.Machine
end

section
/-! SUPPORT. The laws of the Alert Resolvers: at rest when not watching, no IDLE over a low line, no empty sweep (R159 to R164). -/

namespace Sys2Proof.Machine

/-! ### The three laws, segment by segment -/

/-- A resolver that is not watching is at rest (R159). -/
def Segment.Resting (g : Segment) : Prop :=
  g.watching = false →
    g.resolver.state = .idle ∧ g.resolver.cursor = 0 ∧ g.resolver.found = false ∧ g.resolver.outstanding = false

/-- A watching IDLE resolver does not stand over a low line (R160). -/
def Segment.Looked (g : Segment) : Prop := g.watching = true → g.resolver.state = .idle → g.alertLow = false

/-- A sweep stands only while a target is left to read or a read is outstanding (R164). -/
def Swept (s : State) (x : Seg) : Prop :=
  (s.seg x).resolver.inSweep = true → (s.seg x).resolver.outstanding = false →
    (nextQualifying s x (s.seg x).resolver.cursor).isSome = true

/-- The laws of both resolvers. -/
def Alerted (s : State) : Prop :=
  (∀ x, (s.seg x).Resting) ∧ (s.rstnLow = false → ∀ x, (s.seg x).Looked ∧ Swept s x)

theorem alerted_iff (s : State) : RestLaw s ∧ SweepLaw s ↔ Alerted s := Iff.rfl

theorem nextQualifying_isSome {s : State} {x : Seg} {cursor : Nat} :
    (nextQualifying s x cursor).isSome = true ↔ ∃ i : Fin 32, cursor ≤ i.val ∧ qualifies (s.target i) x = true := by
  simp [nextQualifying, List.find?_isSome]

/-- A table whose entries qualify where they did keeps every sweep. -/
theorem Swept.mono {s t : State} {x : Seg} (h : Swept s x) (hr : (t.seg x).resolver = (s.seg x).resolver)
    (hq : ∀ i, qualifies (s.target i) x = true → qualifies (t.target i) x = true) : Swept t x := by
  unfold Swept
  rw [hr]
  intro hin hout
  obtain ⟨i, hi, hqi⟩ := nextQualifying_isSome.1 (h hin hout)
  exact nextQualifying_isSome.2 ⟨i, hi, hq i hqi⟩

theorem qualifies_of_targets {s t : State} (h : t.targets = s.targets) (i : Fin 32) (x : Seg)
    (hq : qualifies (s.target i) x = true) : qualifies (t.target i) x = true := by
  rw [State.target, h]
  exact hq

/-- A change of a segment that leaves its resolver's business alone. -/
structure Segment.SameAlert (g g' : Segment) : Prop where
  watching : g'.watching = g.watching
  resolver : g'.resolver = g.resolver
  pin : g'.alertLow = g.alertLow

theorem Segment.SameAlert.refl (g : Segment) : g.SameAlert g := ⟨rfl, rfl, rfl⟩

theorem Segment.SameAlert.resting {g g' : Segment} (h : g.SameAlert g') (hg : g.Resting) : g'.Resting := by
  unfold Segment.Resting
  rw [h.watching, h.resolver]
  exact hg

theorem Segment.SameAlert.looked {g g' : Segment} (h : g.SameAlert g') (hg : g.Looked) : g'.Looked := by
  unfold Segment.Looked
  rw [h.watching, h.resolver, h.pin]
  exact hg

theorem Segment.sameAlert_of_fields {g g' : Segment} (hc : g'.cfg = g.cfg) (hs : g'.state = .disabled ↔ g.state = .disabled)
    (hr : g'.resolver = g.resolver) (hp : g'.alertLow = g.alertLow) : g.SameAlert g' := by
  refine ⟨?_, hr, hp⟩
  unfold Segment.watching
  rw [hc]
  simp [hs]

theorem Alerted.of_same {s t : State} (h : Alerted s) (hs : ∀ x, (s.seg x).SameAlert (t.seg x)) (hrst : t.rstnLow = s.rstnLow)
    (hq : ∀ i x, qualifies (s.target i) x = true → qualifies (t.target i) x = true) : Alerted t := by
  obtain ⟨hrest, hup⟩ := h
  refine ⟨fun x => (hs x).resting (hrest x), fun hlow x => ?_⟩
  obtain ⟨hl, hsw⟩ := hup (hrst.symm.trans hlow) x
  exact ⟨(hs x).looked hl, hsw.mono (hs x).resolver fun i => hq i x⟩

theorem Segment.Resting.not_inSweep {g : Segment} (h : g.Resting) (hw : g.watching = false) : g.resolver.inSweep = false := by
  simp [Resolver.inSweep, (h hw).1]

/-! ### The end of a sweep and a look at the line -/

theorem target_endSweep (x : Seg) (s : State) (i : Fin 32) : (endSweep x s).target i = s.target i := by
  obtain ⟨r, l, h⟩ := endSweep_shape x s
  rw [h]
  exact State.target_setSeg ..

theorem rstnLow_endSweep (x : Seg) (s : State) : (endSweep x s).rstnLow = s.rstnLow := by
  obtain ⟨r, l, h⟩ := endSweep_shape x s
  rw [h]
  exact State.setSeg_rstnLow ..

theorem seg_withLatched (s : State) (l : Word) (x : Seg) : State.seg { s with latched := l } x = s.seg x := by cases x <;> rfl

theorem seg_endSweep_other {x y : Seg} (s : State) (h : y ≠ x) : (endSweep x s).seg y = s.seg y := by
  obtain ⟨r, l, hs⟩ := endSweep_shape x s
  rw [hs, seg_withLatched, State.seg_setSeg_other _ _ h]

/-- What the end test leaves of a segment: all, or all but the resolver, which goes to HOLDOFF from a sweep. -/
theorem seg_endSweep (x : Seg) (s : State) :
    (endSweep x s).seg x = s.seg x ∨
    ((s.seg x).resolver.inSweep = true ∧
      (endSweep x s).seg x = { s.seg x with resolver := (s.seg x).resolver.toHoldoff s.tick (s.seg x).cfg.holdoff }) := by
  rcases endSweep_cases x s with h | ⟨hin, -, -, l, h⟩
  · exact .inl (by rw [h])
  · exact .inr ⟨hin, by rw [h, seg_withLatched, State.seg_setSeg_same]⟩

theorem endSweep_resting {x y : Seg} {s : State} (h : (s.seg y).Resting) : ((endSweep x s).seg y).Resting := by
  by_cases hyx : y = x
  · subst hyx
    rcases seg_endSweep y s with hs | ⟨hin, hs⟩
    · rw [hs]; exact h
    · rw [hs]
      intro hw
      rw [h.not_inSweep hw] at hin
      cases hin
  · rw [seg_endSweep_other s hyx]; exact h

theorem endSweep_looked {x y : Seg} {s : State} (h : (s.seg y).Looked) : ((endSweep x s).seg y).Looked := by
  by_cases hyx : y = x
  · subst hyx
    rcases seg_endSweep y s with hs | ⟨-, hs⟩
    · rw [hs]; exact h
    · rw [hs]
      intro _ hidle
      cases hidle
  · rw [seg_endSweep_other s hyx]; exact h

theorem endSweep_swept (x : Seg) (s : State) : Swept (endSweep x s) x := by
  by_cases hend : ((s.seg x).resolver.inSweep && !(s.seg x).resolver.outstanding &&
      (nextQualifying s x (s.seg x).resolver.cursor).isNone) = true
  · have hholds : ((endSweep x s).seg x).resolver.state = .holdoff := by
      unfold endSweep
      dsimp only
      rw [if_pos hend, State.seg_updSeg_same]
      rfl
    intro hin
    simp [Resolver.inSweep, hholds] at hin
  · have hsame : endSweep x s = s := by
      unfold endSweep
      exact if_neg hend
    rw [hsame]
    intro hin hout
    simpa [hin, hout, Option.isSome_iff_ne_none] using hend

theorem endSweep_swept_other {x y : Seg} {s : State} (h : Swept s y) (hyx : y ≠ x) : Swept (endSweep x s) y :=
  h.mono (by rw [seg_endSweep_other s hyx]) fun i hq => by rwa [target_endSweep]

/-- The end test of one resolver gives its sweep law. -/
theorem endSweep_alerted {x : Seg} {s : State} (hrest : ∀ y, (s.seg y).Resting)
    (hlook : s.rstnLow = false → ∀ y, (s.seg y).Looked) (hsw : s.rstnLow = false → ∀ y, y ≠ x → Swept s y) :
    Alerted (endSweep x s) := by
  refine ⟨fun y => endSweep_resting (hrest y), fun hrst y => ?_⟩
  rw [rstnLow_endSweep] at hrst
  refine ⟨endSweep_looked (hlook hrst y), ?_⟩
  by_cases hyx : y = x
  · rw [hyx]; exact endSweep_swept x s
  · exact endSweep_swept_other (hsw hrst y hyx) hyx

/-- The end tests of both resolvers give their sweep laws. -/
theorem endSweeps_alerted {s : State} (hrest : ∀ y, (s.seg y).Resting) (hlook : s.rstnLow = false → ∀ y, (s.seg y).Looked) :
    Alerted (endSweeps s) := by
  refine endSweep_alerted (fun y => endSweep_resting (hrest y)) (fun hrst y => ?_) fun _ y hy => ?_
  · rw [rstnLow_endSweep] at hrst
    exact endSweep_looked (hlook hrst y)
  · cases y
    · exact endSweep_swept .a s
    · exact absurd rfl hy

/-- Becoming PENDING, before the end test. -/
def setPending (x : Seg) (s : State) : State := s.updSeg x fun g => { g with resolver := g.resolver.toPending }

theorem beginSweep_eq (x : Seg) (s : State) : beginSweep x s = endSweep x (setPending x s) := rfl

theorem seg_setPending_other {x y : Seg} (s : State) (h : y ≠ x) : (setPending x s).seg y = s.seg y :=
  State.seg_updSeg_other s _ h

theorem seg_setPending (x : Seg) (s : State) :
    (setPending x s).seg x = { s.seg x with resolver := (s.seg x).resolver.toPending } := State.seg_updSeg_same ..

/-- A watching resolver that becomes PENDING has its laws. -/
theorem beginSweep_own {x : Seg} {s : State} (hw : (s.seg x).watching = true) :
    ((beginSweep x s).seg x).Resting ∧ ((beginSweep x s).seg x).Looked ∧ Swept (beginSweep x s) x := by
  rw [beginSweep_eq]
  refine ⟨endSweep_resting ?_, endSweep_looked ?_, endSweep_swept x _⟩
  · rw [seg_setPending]
    intro hnw
    exact absurd (hw.symm.trans hnw) nofun
  · rw [seg_setPending]
    intro _ hidle
    cases hidle

theorem seg_lookAtLine_other {x y : Seg} (s : State) (h : y ≠ x) : (lookAtLine x s).seg y = s.seg y := by
  obtain ⟨r, l, hs⟩ := lookAtLine_shape x s
  rw [hs, seg_withLatched, State.seg_setSeg_other _ _ h]

theorem seg_beginSweep_other {x y : Seg} (s : State) (h : y ≠ x) : (beginSweep x s).seg y = s.seg y := by
  obtain ⟨r, l, hs⟩ := beginSweep_shape x s
  rw [hs, seg_withLatched, State.seg_setSeg_other _ _ h]

theorem target_lookAtLine (x : Seg) (s : State) (i : Fin 32) : (lookAtLine x s).target i = s.target i := by
  obtain ⟨r, l, h⟩ := lookAtLine_shape x s
  rw [h]
  exact State.target_setSeg ..

theorem target_beginSweep (x : Seg) (s : State) (i : Fin 32) : (beginSweep x s).target i = s.target i := by
  obtain ⟨r, l, h⟩ := beginSweep_shape x s
  rw [h]
  exact State.target_setSeg ..

theorem rstnLow_lookAtLine (x : Seg) (s : State) : (lookAtLine x s).rstnLow = s.rstnLow := by
  obtain ⟨r, l, h⟩ := lookAtLine_shape x s
  rw [h]
  exact State.setSeg_rstnLow ..

theorem rstnLow_beginSweep (x : Seg) (s : State) : (beginSweep x s).rstnLow = s.rstnLow := by
  obtain ⟨r, l, h⟩ := beginSweep_shape x s
  rw [h]
  exact State.setSeg_rstnLow ..

/-- A look at the line gives its resolver's laws, where it had no sweep without an end. -/
theorem lookAtLine_own {x : Seg} {s : State} (hrest : (s.seg x).Resting) (hsw : Swept s x) :
    ((lookAtLine x s).seg x).Resting ∧ ((lookAtLine x s).seg x).Looked ∧ Swept (lookAtLine x s) x := by
  by_cases hlow : ((s.seg x).watching && decide ((s.seg x).resolver.state = .idle) && (s.seg x).alertLow) = true
  · have hlook : lookAtLine x s = beginSweep x s := if_pos hlow
    rw [hlook]
    simp only [Bool.and_eq_true] at hlow
    exact beginSweep_own hlow.1.1
  · have hlook : lookAtLine x s = s := if_neg hlow
    rw [hlook]
    exact ⟨hrest, fun hw hidle => by simpa [hw, hidle] using hlow, hsw⟩

/-- What changes one resolver alone keeps the laws of both where it gives its own. -/
theorem alerted_of_own {x : Seg} {s t : State} (hseg : ∀ y, y ≠ x → t.seg y = s.seg y) (ht : ∀ i, t.target i = s.target i)
    (hrst : t.rstnLow = s.rstnLow) (hown : (t.seg x).Resting ∧ (t.seg x).Looked ∧ Swept t x)
    (hup : ∀ y, y ≠ x → (s.seg y).Resting ∧ (s.rstnLow = false → (s.seg y).Looked ∧ Swept s y)) : Alerted t := by
  obtain ⟨hrest, hlook, hsw⟩ := hown
  refine ⟨fun y => ?_, fun hlow y => ?_⟩
  · by_cases hyx : y = x
    · rw [hyx]; exact hrest
    · rw [hseg y hyx]; exact (hup y hyx).1
  · by_cases hyx : y = x
    · rw [hyx]; exact ⟨hlook, hsw⟩
    · obtain ⟨hl, hs⟩ := (hup y hyx).2 (hrst.symm.trans hlow)
      exact ⟨by rw [hseg y hyx]; exact hl, hs.mono (by rw [hseg y hyx]) fun i hq => by rwa [ht]⟩

theorem Swept.of_not_inSweep {s : State} {x : Seg} (h : (s.seg x).resolver.inSweep = false) : Swept s x :=
  fun hin => absurd (h.symm.trans hin) nofun

theorem lookAtLine_alerted {x : Seg} {s : State} (hrest : (s.seg x).Resting) (hsw : Swept s x)
    (hup : ∀ y, y ≠ x → (s.seg y).Resting ∧ (s.rstnLow = false → (s.seg y).Looked ∧ Swept s y)) : Alerted (lookAtLine x s) :=
  alerted_of_own (fun _ => seg_lookAtLine_other s) (target_lookAtLine x s) (rstnLow_lookAtLine x s) (lookAtLine_own hrest hsw) hup

theorem beginSweep_alerted {x : Seg} {s : State} (hw : (s.seg x).watching = true)
    (hup : ∀ y, y ≠ x → (s.seg y).Resting ∧ (s.rstnLow = false → (s.seg y).Looked ∧ Swept s y)) : Alerted (beginSweep x s) :=
  alerted_of_own (fun _ => seg_beginSweep_other s) (target_beginSweep x s) (rstnLow_beginSweep x s) (beginSweep_own hw) hup

/-- Both resolvers look at their lines, with no sweep under way. -/
theorem lookAtLines_alerted {s : State} (hrest : ∀ y, (s.seg y).Resting)
    (hin : ∀ y, (s.seg y).resolver.inSweep = false) : Alerted (lookAtLine .b (lookAtLine .a s)) := by
  have hb : (lookAtLine .a s).seg .b = s.seg .b := seg_lookAtLine_other s nofun
  have ha := lookAtLine_own (hrest .a) (Swept.of_not_inSweep (hin .a))
  refine lookAtLine_alerted (by rw [hb]; exact hrest .b) (Swept.of_not_inSweep (by rw [hb]; exact hin .b)) fun y hy => ?_
  cases y
  · exact ⟨ha.1, fun _ => ha.2⟩
  · exact absurd rfl hy

/-- A change of one segment that leaves targets alone keeps the laws where it gives its own. -/
theorem Alerted.setSeg {s : State} {x : Seg} {g : Segment} (h : Alerted s) (hrest : g.Resting)
    (hup : s.rstnLow = false → g.Looked ∧
      (g.resolver.inSweep = true → g.resolver.outstanding = false →
        ∃ i : Fin 32, g.resolver.cursor ≤ i.val ∧ qualifies (s.target i) x = true)) : Alerted (s.setSeg x g) := by
  refine ⟨forall_seg_setSeg (Q := fun _ g => g.Resting) h.1 hrest, fun hrst y => ?_⟩
  rw [State.setSeg_rstnLow] at hrst
  by_cases hyx : y = x
  · subst hyx
    obtain ⟨hl, hsw⟩ := hup hrst
    unfold Swept
    rw [State.seg_setSeg_same]
    refine ⟨hl, fun hin hout => ?_⟩
    obtain ⟨i, hi, hq⟩ := hsw hin hout
    exact nextQualifying_isSome.2 ⟨i, hi, by rwa [State.target_setSeg]⟩
  · obtain ⟨hl, hsw⟩ := h.2 hrst y
    have hseg := State.seg_setSeg_other s g hyx
    exact ⟨by rw [hseg]; exact hl, hsw.mono (by rw [hseg]) fun i hq => by rwa [State.target_setSeg]⟩

/-! ### Moves of a segment -/

theorem SegState.afterTransaction_disabled_iff {st : SegState} {fault : Bool} :
    st.afterTransaction fault = .disabled ↔ st = .disabled :=
  ⟨SegState.afterTransaction_disabled, fun h => by rw [h]; rfl⟩

/-- A move of a segment leaves its resolver's business alone, grants an alert read or disables the segment. -/
theorem SegMove.alert_cases {g g' : Segment} (h : SegMove g g') :
    g.SameAlert g' ∨
    (g.resolver.inSweep = true ∧ g.state = .ready ∧ g'.state = .busy ∧ g'.cfg = g.cfg ∧ g'.resolver.state = .sweeping ∧
      g'.resolver.outstanding = true) ∨
    (g'.state = .disabled ∧ g'.resolver = .atRest) := by
  have handOut (it : Item) (o : TxOutcome) (fault : Bool) (rec : Option Recovery) :
      g.SameAlert { g.handOut it o with state := g.state.afterTransaction fault, recovery := rec } := by
    obtain ⟨-, hcfg, -, -, -, hres, hpin, -⟩ := handOut_frame g it o
    exact Segment.sameAlert_of_fields hcfg SegState.afterTransaction_disabled_iff hres hpin
  cases h with
  | pause => exact .inl (Segment.sameAlert_of_fields rfl ⟨SegState.pause_disabled, fun h => by simp [h, SegState.pause]⟩ rfl rfl)
  | resume => exact .inl (Segment.sameAlert_of_fields rfl ⟨SegState.resume_disabled, fun h => by simp [h, SegState.resume]⟩ rfl rfl)
  | recovered => exact .inl (Segment.sameAlert_of_fields rfl ⟨SegState.recovered_disabled, fun h => by simp [h, SegState.recovered]⟩ rfl rfl)
  | halted => exact .inl (Segment.sameAlert_of_fields rfl ⟨SegState.halt_disabled, fun h => by simp [h, SegState.halt]⟩ rfl rfl)
  | reports | item | sampled | queue | headFinished | headRefused => exact .inl ⟨rfl, rfl, rfl⟩
  | recover now hh => exact .inl (Segment.sameAlert_of_fields rfl (by simp [hh]) rfl rfl)
  | closed => exact .inl (handOut _ _ _ (g.handOut _ _).recovery)
  | faulted => exact .inl (handOut _ _ _ _)
  | grantHead t now hs | grantPoll t i entry grant register width now hs =>
    exact .inl (Segment.sameAlert_of_fields rfl (by simp [hs]) rfl rfl)
  | grantAlert t i register now hs hin => exact .inr (.inl ⟨hin, hs, rfl, rfl, rfl, rfl⟩)
  | disable => exact .inr (.inr ⟨rfl, rfl⟩)

theorem Alerted.segMove {s : State} {x : Seg} {g : Segment} (h : Alerted s) (hm : SegMove (s.seg x) g) :
    Alerted (s.setSeg x g) := by
  rcases hm.alert_cases with hsame | ⟨hin, hs, hb, hc, hst, hout⟩ | ⟨hd, hr⟩
  · refine h.of_same (forall_seg_setSeg (Q := fun y g => (s.seg y).SameAlert g) (fun _ => Segment.SameAlert.refl _) hsame)
      (State.setSeg_rstnLow ..) fun i y hq => by rwa [State.target_setSeg]
  · have hw : (s.seg x).watching = true := by
      by_contra hnw
      rw [(h.1 x).not_inSweep (Bool.eq_false_iff.2 hnw)] at hin
      cases hin
    have hw' : g.watching = true := by
      rw [Segment.watching_iff] at hw ⊢
      rw [hc, hb]
      exact ⟨hw.1, nofun⟩
    refine h.setSeg (fun hnw => absurd (hw'.symm.trans hnw) nofun) fun _ => ⟨fun _ hidle => ?_, fun _ hno => ?_⟩
    · rw [hst] at hidle; cases hidle
    · rw [hout] at hno; cases hno
  · have hnw : g.watching = false := Segment.watching_eq_false_iff.2 (.inr hd)
    refine h.setSeg (fun _ => ?_) fun _ => ⟨fun hw => absurd (hnw.symm.trans hw) nofun, fun hin => ?_⟩
    · rw [hr]; exact ⟨rfl, rfl, rfl, rfl⟩
    · rw [hr] at hin; cases hin

/-! ### Moves of the part -/

theorem Alerted.of_segs {s t : State} (h : Alerted s) (hs : ∀ x, (s.seg x).SameAlert (t.seg x)) (hrst : t.rstnLow = s.rstnLow)
    (ht : t.targets = s.targets) : Alerted t := h.of_same hs hrst fun i x => qualifies_of_targets ht i x

/-- A target entry in a new state of its references keeps every sweep. -/
theorem qualifies_setTarget {s u : State} {i j : Fin 32} {t : Target} {x : Seg} (hu : u.targets = s.targets)
    (h : qualifies (s.target i) x = true → qualifies t x = true) (hq : qualifies (s.target j) x = true) :
    qualifies ((u.setTarget i t).target j) x = true := by
  rw [target_setTarget]
  split
  · next hji => exact h (hji ▸ hq)
  · exact qualifies_of_targets hu j x hq

theorem Target.Eases.qualifies {t t' : Target} (h : t.Eases t') {x : Seg} (hq : qualifies t x = true) :
    Machine.qualifies t' x = true := by
  simp only [Machine.qualifies, Bool.and_eq_true, decide_eq_true_eq] at hq ⊢
  obtain ⟨⟨⟨hv, hseg⟩, hcap⟩, hquar⟩ := hq
  rw [h.cfg]
  exact ⟨⟨⟨fun e => hv (h.vacant.1 e), hseg⟩, hcap⟩, fun e => hquar (h.sweeps e)⟩

/-- A segment that is not watching has its sweep law. -/
theorem Segment.Resting.swept {s : State} {x : Seg} (h : (s.seg x).Resting) (hw : (s.seg x).watching = false) : Swept s x :=
  Swept.of_not_inSweep (h.not_inSweep hw)

theorem Segment.resting_of_idle {g : Segment} (h : g.resolver = .atRest) : g.Resting := fun _ => by
  rw [h]
  exact ⟨rfl, rfl, rfl, rfl⟩

theorem alerted_segWrite {x : Seg} {s : State} {c : SegConfig} (hss : stagedSeg s.ss = some c) (h : Alerted s) :
    Alerted (segWrite x s) := by
  by_cases hw' : { s.seg x with cfg := c }.watching = true
  · have hconf := Segment.configured_of_watching hw'
    have hwatch : ((s.seg x).configured c).watching = true := by rw [hconf]; exact hw'
    have hrest : ((s.seg x).configured c).Resting := fun hn => absurd (hwatch.symm.trans hn) nofun
    by_cases hw : (s.seg x).watching = true
    · rw [segWrite_of_not_begun hss (.inl hw)]
      refine h.setSeg hrest fun hrst => ?_
      obtain ⟨hl, hsw⟩ := h.2 hrst x
      rw [hconf]
      exact ⟨fun _ hidle => hl hw hidle, fun hin hout => nextQualifying_isSome.1 (hsw hin hout)⟩
    · have hn : (s.seg x).watching = false := Bool.eq_false_iff.2 hw
      have hidle := (h.1 x hn).1
      rw [segWrite_of_begun hss hn]
      refine lookAtLine_alerted ?_ (Swept.of_not_inSweep ?_) fun y hy => ?_
      · rw [State.seg_setSeg_same]; exact hrest
      · rw [State.seg_setSeg_same, hconf]
        exact (h.1 x).not_inSweep hn
      · rw [State.seg_setSeg_other _ _ hy]
        refine ⟨h.1 y, fun hrst => ?_⟩
        rw [State.setSeg_rstnLow] at hrst
        obtain ⟨hl, hsw⟩ := h.2 hrst y
        exact ⟨hl, hsw.mono (by rw [State.seg_setSeg_other _ _ hy]) fun i hq => by rwa [State.target_setSeg]⟩
  · have hn : { s.seg x with cfg := c }.watching = false := Bool.eq_false_iff.2 hw'
    have hconf := Segment.configured_of_not_watching hn
    have hwatch : ((s.seg x).configured c).watching = false := by rw [hconf]; exact hn
    rw [segWrite_of_not_begun hss (.inr hwatch)]
    refine h.setSeg (Segment.resting_of_idle (by rw [hconf]; rfl)) fun _ => ⟨fun hw => absurd (hwatch.symm.trans hw) nofun, ?_⟩
    rw [hconf]
    intro hin
    cases hin

theorem alerted_alertLine {x : Seg} {low : Bool} {s : State} (h : Alerted s) : Alerted (alertLineChange x low s) := by
  have hseg : (s.updSeg x fun g => { g with alertLow := low }).seg x = { s.seg x with alertLow := low } :=
    State.seg_updSeg_same ..
  have hrest (y : Seg) : ((s.updSeg x fun g => { g with alertLow := low }).seg y).Resting := by
    by_cases hyx : y = x
    · rw [hyx, hseg]; exact h.1 x
    · rw [State.seg_updSeg_other _ _ hyx]; exact h.1 y
  unfold alertLineChange
  dsimp only
  by_cases hrst : s.rstnLow = true
  · rw [if_pos hrst]
    refine ⟨hrest, fun hlow => ?_⟩
    rw [State.updSeg_rstnLow, hrst] at hlow
    cases hlow
  · rw [if_neg hrst]
    have hup := h.2 (Bool.eq_false_iff.2 hrst)
    have hq (y : Seg) (i : Fin 32) (hqi : qualifies (s.target i) y = true) :
        qualifies ((s.updSeg x fun g => { g with alertLow := low }).target i) y = true :=
      qualifies_of_targets (State.updSeg_targets ..) i y hqi
    refine lookAtLine_alerted (hrest x) ((hup x).2.mono (by rw [hseg]) (hq x)) fun y hy => ⟨hrest y, fun _ => ?_⟩
    rw [State.seg_updSeg_other _ _ hy]
    exact ⟨(hup y).1, (hup y).2.mono (by rw [State.seg_updSeg_other _ _ hy]) (hq y)⟩

theorem alerted_holdoffEnd {x : Seg} {s t : State} (ht : holdoffEnd x s = some t) (h : Alerted s) : Alerted t := by
  unfold holdoffEnd at ht
  simp only [Option.ite_none_right_eq_some, Option.some.injEq, Bool.and_eq_true, decide_eq_true_eq] at ht
  obtain ⟨⟨hhold, -⟩, rfl⟩ := ht
  have hw : (s.seg x).watching = true := by
    by_contra hn
    have := (h.1 x (Bool.eq_false_iff.2 hn)).1
    rw [hhold] at this
    cases this
  split
  · exact beginSweep_alerted hw fun y _ => ⟨h.1 y, fun hrst => h.2 hrst y⟩
  · next hlow =>
    refine h.setSeg (fun hn => absurd (hw.symm.trans hn) nofun) fun _ => ⟨fun _ _ => Bool.eq_false_iff.2 hlow, fun hin => ?_⟩
    cases hin

theorem alerted_alertResult {x : Seg} {s t : State} (ht : alertResult x s = some t) (h : Alerted s) : Alerted t := by
  unfold alertResult at ht
  dsimp only at ht
  split at ht
  · next res rest _ =>
    cases ht
    have hrest : { s.seg x with
        alertResults := rest
        resolver := if (s.seg x).resolver.outstanding then (s.seg x).resolver.told res else (s.seg x).resolver }.Resting := by
      intro hn
      obtain ⟨hidle, hcursor, hfound, hout⟩ := h.1 x hn
      simp [hidle, hcursor, hfound, hout]
    have hstate : (if (s.seg x).resolver.outstanding then (s.seg x).resolver.told res else (s.seg x).resolver).state =
        (s.seg x).resolver.state := by split <;> rfl
    refine endSweep_alerted (forall_seg_setSeg (Q := fun _ g => g.Resting) h.1 hrest) (fun hrst => ?_) fun hrst y hy => ?_
    · rw [State.setSeg_rstnLow] at hrst
      refine forall_seg_setSeg (Q := fun _ g => g.Looked) (fun y => (h.2 hrst y).1) fun hw hidle => ?_
      exact (h.2 hrst x).1 hw (hstate.symm.trans hidle)
    · rw [State.setSeg_rstnLow] at hrst
      exact (h.2 hrst y).2.mono (by rw [State.seg_setSeg_other _ _ hy]) fun i hq => by rwa [State.target_setSeg]
  · cases ht

theorem alerted_softReset (s : State) : Alerted (softReset s) := by
  have hres (x : Seg) : ((clearWork s).seg x).resolver = .atRest := by cases x <;> rfl
  refine lookAtLines_alerted (fun x => Segment.resting_of_idle (hres x)) fun x => ?_
  rw [hres]
  rfl

theorem alerted_of_emptied {s t : State}
    (h : t = reload s ∨ ∃ cfgen cfgadr fsel, t = powerOnReset cfgen cfgadr fsel s) : Alerted t := by
  have hx (x : Seg) : (t.seg x).watching = false ∧ (t.seg x).resolver = .atRest := by
    rcases seg_of_emptied h x with hx | ⟨-, -, hx⟩ <;> (rw [hx]; exact ⟨rfl, rfl⟩)
  refine ⟨fun x => Segment.resting_of_idle (hx x).2, fun _ x => ⟨fun hw => absurd ((hx x).1.symm.trans hw) nofun, ?_⟩⟩
  exact Swept.of_not_inSweep (by rw [(hx x).2]; rfl)

theorem alerted_commit {s : State} {l : Loader} (hq : LoadQuiet s) (hl : s.loader.state = .loading) (h : Alerted s) :
    Alerted (commit s l) := by
  have hidle (x : Seg) : (s.seg x).resolver.state = .idle ∧ (s.seg x).resolver.cursor = 0 ∧
      (s.seg x).resolver.found = false ∧ (s.seg x).resolver.outstanding = false :=
    h.1 x (Segment.watching_eq_false_iff.2 (.inr (hq hl x).1))
  have hcommit (g : Segment) (c : Option (SegConfig × Bool)) : (g.commit c).resolver = g.resolver := by
    unfold Segment.commit
    split
    · split <;> rfl
    · rfl
  have hres (x : Seg) : ((commitSettings s l).seg x).resolver = (s.seg x).resolver := by
    unfold commitSettings commitEvents
    cases l.shadow.events <;> cases x <;> exact hcommit _ _
  rw [commit_eq]
  refine lookAtLines_alerted (fun x _ => by rw [hres]; exact hidle x) fun x => ?_
  rw [hres]
  simp [Resolver.inSweep, (hidle x).1]

theorem Move.alerted {s t : State} (hm : Move s t) (hq : LoadQuiet s) (h : Alerted s) : Alerted t := by
  have same : ∀ x, (s.seg x).SameAlert (s.seg x) := fun _ => Segment.SameAlert.refl _
  cases hm with
  | port | latch | stage | events | mem | pop | polls => exact h.of_segs same rfl rfl
  | target he => exact h.of_same (fun _ => Segment.SameAlert.refl _) rfl fun j x => qualifies_setTarget rfl he.qualifies
  | outcome i o =>
    have hseg (x : Seg) : (applyOutcome s i o).seg x = s.seg x := by
      unfold applyOutcome; dsimp only; split <;> (cases x <;> rfl)
    have hrst : (applyOutcome s i o).rstnLow = s.rstnLow := by
      unfold applyOutcome; dsimp only; split <;> rfl
    exact endSweeps_alerted (fun x => by rw [hseg]; exact h.1 x) fun hlow x => by
      rw [hseg]; exact (h.2 (hrst.symm.trans hlow) x).1
  | edit => exact endSweeps_alerted h.1 fun hlow x => (h.2 hlow x).1
  | pollEnable hl hoff =>
    rw [pollEnable_of_disabled hoff]
    exact h.of_same same rfl fun j x => qualifies_setTarget (s := s) rfl id
  | pollDisable hon =>
    rw [pollDisable_of_enabled hon]
    exact h.of_same same rfl fun j x => qualifies_setTarget (s := s) rfl id
  | submit =>
    rw [submit_eq]
    refine h.of_same ?_ (State.setSeg_rstnLow ..) fun j x => qualifies_setTarget (State.setSeg_targets ..) id
    exact forall_seg_setSeg (Q := fun y g => (s.seg y).SameAlert g) same ⟨rfl, rfl, rfl⟩
  | retirement hr =>
    obtain ⟨d, rest, c, -, -, -, rfl⟩ := retirement_cases hr
    refine h.of_same ?_ (State.setSeg_rstnLow ..) fun j x => qualifies_setTarget (State.setSeg_targets ..) id
    exact forall_seg_setSeg (Q := fun y g => (s.seg y).SameAlert g) same ⟨rfl, rfl, rfl⟩
  | seg hs => exact h.segMove hs
  | loaderEnd =>
    refine h.of_segs ?_ (State.setSeg_rstnLow ..) (State.setSeg_targets ..)
    exact forall_seg_withLoader (Q := fun y g => (s.seg y).SameAlert g)
      (forall_seg_setSeg (Q := fun y g => (s.seg y).SameAlert g) same ⟨rfl, rfl, rfl⟩)
  | @enable x hl hd =>
    have hn : (s.seg x).watching = false := Segment.watching_eq_false_iff.2 (.inr hd)
    refine lookAtLine_alerted ?_ (Swept.of_not_inSweep ?_) fun y hy => ?_
    · rw [State.seg_setSeg_same]; exact fun _ => h.1 x hn
    · rw [State.seg_setSeg_same]; exact (h.1 x).not_inSweep hn
    · rw [State.seg_setSeg_other _ _ hy]
      refine ⟨h.1 y, fun hrst => ?_⟩
      rw [State.setSeg_rstnLow] at hrst
      obtain ⟨hl, hsw⟩ := h.2 hrst y
      exact ⟨hl, hsw.mono (by rw [State.seg_setSeg_other _ _ hy]) fun i hq => by rwa [State.target_setSeg]⟩
  | segWrite hss => exact alerted_segWrite hss h
  | alertLine => exact alerted_alertLine h
  | holdoffEnd ht => exact alerted_holdoffEnd ht h
  | alertResult ht => exact alerted_alertResult ht h
  | softReset => exact alerted_softReset s
  | reload => exact alerted_of_emptied (.inl rfl)
  | powerOnReset => exact alerted_of_emptied (.inr ⟨_, _, _, rfl⟩)
  | rstnLow => exact ⟨fun | .a => h.1 .a | .b => h.1 .b, fun hlow => absurd hlow nofun⟩
  | loaderReadReport ht =>
    obtain ⟨r, bytes, l, -, hl, -, rfl | ⟨reason, rfl⟩ | rfl⟩ := loaderReadReport_cases ht
    · exact h.of_segs (fun | .a => ⟨rfl, rfl, rfl⟩ | .b => ⟨rfl, rfl, rfl⟩) rfl rfl
    · exact h.of_segs same rfl rfl
    · exact alerted_commit hq hl h

/-- Settles O16: every move keeps the resolvers' laws, a load beside segments that are DISABLED. -/
theorem stepKeepsSweepLaws : Obligations.StepKeepsSweepLaws := by
  unfold Obligations.StepKeepsSweepLaws
  simp only [alerted_iff]
  intro s t h hstep
  exact step_keeps (P := fun s => LoadQuiet s ∧ Alerted s)
    (fun s t hm ⟨hq, ha⟩ => ⟨Move.keeps_of_core LoadQuiet.bare (fun _ _ hc => hc.loadQuiet) s t hm hq, hm.alerted hq ha⟩)
    hstep h

end Sys2Proof.Machine
end

section
/-! SUPPORT. The ranges of counts and the bits that hold no field (R9, R30, R48, R89, R116, R125, R169, R175, R176, R180, R194). -/

namespace Sys2Proof.Machine

/-! ### What one segment holds -/

/-- The counts of one segment but its resolver's cursor. -/
structure Segment.InRange (g : Segment) : Prop where
  length : g.queue.length ≤ 16
  streak : g.streak ≤ 8
  held : ∀ d ∈ g.queue, d.InRange
  item : ∀ it, g.item = some it → it.InRange
  report : ∀ r, g.headReport = some r → CountsInRange r.attempts r.writeCount r.readCount
  recovery : ∀ r, g.recovery = some r → r.InRange

theorem Item.InRange.counts {it : Item} (h : it.InRange) : CountsInRange it.attempts it.writeCount it.readCount := by
  obtain ⟨-, ⟨-, ha⟩, hw, hr, -⟩ := h
  have := it.retryLimit.isLt
  exact ⟨by omega, hw, hr⟩

theorem Descriptor.inRange_withState {d : Descriptor} (h : d.InRange) {st : DescState} {cut : Bool}
    (hst : ∀ o a w r, st = .finished o a w r → CountsInRange a w r) : { d with state := st, cut := cut }.InRange :=
  ⟨h.1, hst⟩

theorem Descriptor.Settles.inRange {d d' : Descriptor} (h : d.Settles d') (hd : d.InRange) : d'.InRange := by
  obtain ⟨st, cut, rfl, hst⟩ := h
  refine Descriptor.inRange_withState hd fun o a w r he => ?_
  rcases hst with hst | ⟨-, hst | hst⟩
  · exact hd.2 o a w r (hst.symm.trans he)
  · rw [hst] at he; cases he
  · rw [hst] at he; cases he

theorem Recovery.fresh_inRange (now : Tick) (stretch : Byte) : (Recovery.fresh now stretch).InRange :=
  ⟨Nat.zero_le _, fun _ => Nat.zero_lt_succ _⟩

theorem report_headReport (g : Segment) (it : Item) (body : ReportBody) : (g.report it body).headReport = g.headReport := by
  obtain ⟨table, h⟩ := Segment.report_eq g it body
  rw [h]

/-- The report of the head that handing out leaves is the item's, or the one that waited. -/
theorem handOut_report {g : Segment} {it : Item} {o : TxOutcome} {r : HeadReport} (h : (g.handOut it o).headReport = some r) :
    (r.attempts = it.attempts ∧ r.writeCount = it.writeCount ∧ r.readCount = it.readCount) ∨ g.headReport = some r := by
  unfold Segment.handOut at h
  split at h
  · rw [report_headReport] at h
    cases h
    exact .inl ⟨rfl, rfl, rfl⟩
  · split at h
    · exact .inr h
    · rw [report_headReport] at h
      exact .inr h
  · split at h
    · exact .inr h
    · rw [report_headReport] at h
      exact .inr h
  · exact .inr h

/-- A segment that hands out the reports of an item in range, with a recovery in range where it has one. -/
theorem Segment.InRange.handOut {g g' : Segment} {it : Item} {o : TxOutcome} (hg : g.InRange) (hit : it.InRange)
    (hq : g'.queue = (g.handOut it o).queue) (hs : g'.streak = (g.handOut it o).streak)
    (hh : g'.headReport = (g.handOut it o).headReport) (hi : g'.item = (g.handOut it o).item)
    (hr : ∀ r, g'.recovery = some r → r.InRange) : g'.InRange := by
  obtain ⟨hqueue, -, -, hstreak, -, -, -, hitem⟩ := handOut_frame g it o
  rw [hqueue] at hq
  refine ⟨by rw [hq]; exact hg.length, by rw [hs, hstreak]; exact hg.streak, by rw [hq]; exact hg.held, fun j hj => ?_,
    fun r hrep => ?_, hr⟩
  · rw [hi, hitem] at hj
    cases hj
  · rcases handOut_report (hh.symm.trans hrep) with ⟨ha, hw, hrc⟩ | hold
    · rw [ha, hw, hrc]; exact hit.counts
    · exact hg.report r hold

theorem SegMove.inRange {g g' : Segment} (h : SegMove g g') (hg : g.InRange) : g'.InRange := by
  have head {d d' : Descriptor} {rest : List Descriptor} (hq : g.queue = d :: rest) (hd : d.InRange → d'.InRange) :
      (d' :: rest).length ≤ 16 ∧ ∀ e ∈ d' :: rest, e.InRange := by
    have hlen := hg.length
    have hheld := hg.held
    rw [hq] at hlen hheld
    exact ⟨hlen, List.forall_mem_cons.2 ⟨hd (hheld d List.mem_cons_self), fun e he => hheld e (List.mem_cons_of_mem _ he)⟩⟩
  cases h with
  | pause | resume | reports | disable => exact { hg with }
  | @item it it' hit hk => exact { hg with item := fun j hj => by cases hj; exact hk.range (hg.item it hit) }
  | closed hit hk hs ho =>
    refine hg.handOut (hk.range (hg.item _ hit)) rfl rfl rfl rfl fun r hr => hg.recovery r ?_
    rwa [handOut_recovery] at hr
  | faulted now hit hk hs =>
    exact hg.handOut (hk.range (hg.item _ hit)) rfl rfl rfl rfl fun r hr => by cases hr; exact Recovery.fresh_inRange _ _
  | sampled hr hk => exact { hg with recovery := fun r h => by cases h; exact hk (hg.recovery _ hr) }
  | recovered hr => exact { hg with recovery := fun r h => by cases h }
  | halted hr => exact { hg with recovery := fun r h => by cases h }
  | recover => exact { hg with recovery := fun r h => by cases h; exact Recovery.fresh_inRange _ _ }
  | @queue q h =>
    refine { hg with length := h.length_eq ▸ hg.length, held := fun d' hd' => ?_ }
    obtain ⟨i, hi, rfl⟩ := List.mem_iff_getElem.1 hd'
    have hlen := h.length_eq
    change i < q.length at hi
    exact (h.get (i := i) (by omega) hi).inRange (hg.held _ (List.getElem_mem _))
  | @headFinished r d rest hr hq hd =>
    have hcounts := hg.report r hr
    obtain ⟨hlen, hheld⟩ := head (d' := { d with state := .finished r.outcome r.attempts r.writeCount r.readCount }) hq
      fun hd => Descriptor.inRange_withState hd fun o a w rc he => by cases he; exact hcounts
    exact { hg with length := hlen, held := hheld, report := fun r h => by cases h }
  | @headRefused d rest hs hq hd =>
    obtain ⟨hlen, hheld⟩ := head (d' := { d with state := .finished .targetQuarantined 0 0 0 }) hq
      fun hd => Descriptor.inRange_withState hd fun o a w rc he => by
        cases he; exact ⟨Nat.zero_le _, Nat.zero_le _, Nat.zero_le _⟩
    exact { hg with length := hlen, held := hheld }
  | @grantHead d rest t now hs hq hd =>
    obtain ⟨hlen, hheld⟩ := head (d' := { d with state := .active }) hq
      fun hd => Descriptor.inRange_withState hd fun o a w rc he => by cases he
    have hsized : d.InRange := hg.held d (by rw [hq]; exact List.mem_cons_self)
    refine { hg with length := hlen, streak := Nat.min_le_right .., held := hheld, item := fun it hit => ?_ }
    cases hit
    exact Item.granted_laws fun kind present index w r page he => by cases he; exact hsized.1
  | grantPoll =>
    exact { hg with streak := Nat.zero_le _, item := fun it hit => by cases hit; exact Item.granted_laws fun _ _ _ _ _ _ he => by cases he }
  | grantAlert =>
    exact { hg with item := fun it hit => by cases hit; exact Item.granted_laws fun _ _ _ _ _ _ he => by cases he }

/-- With nothing held, in flight or waiting. -/
theorem Segment.inRange_of_nothing {g : Segment} (hq : g.queue = []) (hs : g.streak ≤ 8) (hi : ∀ it, g.item = some it → it.InRange)
    (hh : g.headReport = none) (hr : g.recovery = none) : g.InRange :=
  ⟨by simp [hq], hs, by simp [hq], hi, by simp [hh], by simp [hr]⟩

theorem Segment.InRange.append {g : Segment} {d : Descriptor} (h : g.InRange) (hlen : g.queue.length < 16) (hd : d.InRange) :
    { g with queue := g.queue ++ [d] }.InRange :=
  { h with
    length := by rw [List.length_append]; exact hlen
    held := fun e he => (List.mem_append.1 he).elim (h.held e) fun he => by rw [List.mem_singleton.1 he]; exact hd }

theorem Segment.InRange.retire {g : Segment} {d : Descriptor} {rest : List Descriptor} (h : g.InRange) (hq : g.queue = d :: rest) :
    { g with queue := rest }.InRange := by
  have hlen := h.length
  have hheld := h.held
  rw [hq] at hlen hheld
  exact { h with length := Nat.le_of_succ_le hlen, held := fun e he => hheld e (List.mem_cons_of_mem _ he) }

theorem Segment.InRange.withItem {g : Segment} {item : Option Item} (h : g.InRange) (hi : ∀ it, item = some it → it.InRange) :
    { g with item := item }.InRange := { h with item := hi }

theorem Segment.InRange.commit {g : Segment} {c : Option (SegConfig × Bool)} (h : g.InRange) : (g.commit c).InRange := by
  unfold Segment.commit
  split
  · split
    · exact { h with streak := Nat.zero_le _ }
    · exact { h with }
  · exact h

theorem acceptedDescriptor_inRange {s : State} {q : List Descriptor} (h : firstFailing (submitChecks s) = none) :
    (acceptedDescriptor s q).InRange := by
  obtain ⟨-, -, -, -, ⟨k, hk⟩, hlen, -⟩ := submitChecks_pass h
  refine ⟨?_, fun _ _ _ _ he => by cases he⟩
  simpa [acceptedDescriptor, StagedDescriptor.lengthsOk, hk] using hlen

theorem segs_inRange_of_emptied {s t : State}
    (h : t = reload s ∨ ∃ cfgen cfgadr fsel, t = powerOnReset cfgen cfgadr fsel s) (x : Seg) : (t.seg x).InRange := by
  rcases seg_of_emptied h x with hx | ⟨-, -, hx⟩
  · rw [hx]
    exact Segment.inRange_of_nothing rfl (Nat.zero_le _) (fun it hit => by cases hit) rfl rfl
  · rw [hx]
    exact Segment.inRange_of_nothing rfl (Nat.zero_le _) (fun it hit => by cases hit; exact Item.loaderPiece_inRange _ _ _) rfl rfl

theorem CoreMove.segs_inRange {s t : State} (h : CoreMove s t) (hs : ∀ x, (s.seg x).InRange) : ∀ x, (t.seg x).InRange := by
  have set {x : Seg} {g : Segment} (hg : g.InRange) : ∀ y, ((s.setSeg x g).seg y).InRange :=
    forall_seg_setSeg (Q := fun _ g => g.InRange) hs hg
  cases h with
  | same | pop | target | edit | polls | fail => exact hs
  | pollEnable hl hoff => rw [pollEnable_of_disabled hoff]; exact hs
  | pollDisable hon => rw [pollDisable_of_enabled hon]; exact hs
  | submit hl hc =>
    obtain ⟨-, -, -, -, -, -, -, hlen⟩ := submitChecks_pass hc
    rw [submit_eq]
    exact set ((hs _).append hlen (acceptedDescriptor_inRange hc))
  | retirement h =>
    obtain ⟨d, rest, c, hq, -, -, rfl⟩ := retirement_cases h
    exact set ((hs _).retire hq)
  | seg h => exact set (h.inRange (hs _))
  | loaderEnd =>
    exact forall_seg_withLoader (Q := fun _ g => g.InRange) (set ((hs _).withItem fun it hit => by cases hit))
  | enable => exact set { hs _ with streak := Nat.zero_le _ }
  | clearWork =>
    have cleared (g : Segment) : g.softReset.InRange :=
      Segment.inRange_of_nothing rfl (Nat.zero_le _) (fun it hit => by cases hit) rfl rfl
    exact fun | .a => cleared _ | .b => cleared _
  | reload => exact segs_inRange_of_emptied (.inl rfl)
  | powerOnReset => exact segs_inRange_of_emptied (.inr ⟨_, _, _, rfl⟩)
  | rstnLow =>
    have cut (g : Segment) (hg : g.InRange) : g.cutOff.InRange :=
      { hg with item := fun _ h => (by cases h), report := fun _ h => (by cases h), recovery := fun _ h => (by cases h) }
    exact fun | .a => cut _ (hs .a) | .b => cut _ (hs .b)
  | piece =>
    exact fun
      | .a => (hs .a).withItem fun it hit => by cases hit; exact Item.loaderPiece_inRange _ _ _
      | .b => hs .b
  | commit => exact fun | .a => (hs .a).commit | .b => (hs .b).commit

/-! ### The ring -/

/-- The ring and its entries' counts. -/
def RingInRange (s : State) : Prop :=
  s.ring.length ≤ 32 ∧ ∀ c ∈ s.ring, CountsInRange c.attempts c.writeCount c.readCount

theorem Descriptor.completion_counts {d : Descriptor} {now : Tick} {c : Completion} (hd : d.InRange)
    (h : d.completion now = some c) : CountsInRange c.attempts c.writeCount c.readCount := by
  unfold Descriptor.completion at h
  dsimp only at h
  split at h
  · next hst => cases h; exact hd.2 _ _ _ _ hst
  · cases h; exact ⟨Nat.zero_le _, Nat.zero_le _, Nat.zero_le _⟩
  · cases h; exact ⟨Nat.zero_le _, Nat.zero_le _, Nat.zero_le _⟩
  · cases h

theorem CoreMove.ringInRange {s t : State} (h : CoreMove s t) (hs : ∀ x, (s.seg x).InRange) (hr : RingInRange s) :
    RingInRange t := by
  have same {u : State} (hu : u.ring = s.ring) : RingInRange u := by unfold RingInRange; rwa [hu]
  have empty {u : State} (hu : u.ring = []) : RingInRange u := ⟨by simp [hu], by simp [hu]⟩
  cases h with
  | same | target | edit | polls | fail | rstnLow => exact hr
  | clearWork => exact empty rfl
  | pop => exact ⟨by rw [List.length_tail]; exact (Nat.sub_le _ _).trans hr.1, fun c hc => hr.2 c (List.mem_of_mem_tail hc)⟩
  | seg | loaderEnd | enable | piece => exact same (by simp [beginPiece])
  | pollEnable hl hoff => rw [pollEnable_of_disabled hoff]; exact hr
  | pollDisable hon => rw [pollDisable_of_enabled hon]; exact hr
  | submit => rw [submit_eq]; exact same (State.setSeg_ring ..)
  | @retirement x _ h =>
    obtain ⟨d, rest, c, hq, hc, hlen, rfl⟩ := retirement_cases h
    refine ⟨?_, fun e he => ?_⟩
    · show (s.ring ++ [c]).length ≤ 32
      rw [List.length_append]
      exact hlen
    · obtain he | he := List.mem_append.1 he
      · exact hr.2 e he
      · rw [List.mem_singleton.1 he]
        exact Descriptor.completion_counts ((hs x).held d (by rw [hq]; exact List.mem_cons_self)) hc
  | reload => exact empty rfl
  | powerOnReset cfgen => exact empty (by cases cfgen <;> rfl)
  | commit => exact same rfl

/-! ### The loader -/

/-- The list position and the count of good records, which during a load counts the written shadow entries (R184). -/
def Loader.InRange (l : Loader) : Prop :=
  l.offset ≤ 4095 ∧ l.good ≤ 255 ∧ (l.state = .loading → l.good = l.shadow.written)

theorem countP_vset_some {α : Type} {n : Nat} {v : Vector (Option α) n} {i : Fin n} {a : α} (h : v.get i = none) :
    (vset v i (some a)).toList.countP (·.isSome) = v.toList.countP (·.isSome) + 1 := by
  rw [vset_toList, List.countP_set (by simp)]
  have : v.toList[i.val]'(by simp) = none := by
    rw [← h, Vector.get_eq_getElem]
    simp
  simp [this]

theorem Shadow.written_eq (sh : Shadow) :
    sh.written = sh.segA.isSome.toNat + sh.segB.isSome.toNat + sh.targets.toList.countP (·.isSome) +
      sh.polls.toList.countP (·.isSome) + sh.events.isSome.toNat := by
  simp [Shadow.written, Bool.toNat, Bool.cond_eq_ite]

/-- A record that passes writes one shadow entry. -/
theorem Shadow.written_record {sh sh' : Shadow} {code : Byte} {b : List Byte} (h : checkBody sh code b = .ok sh') :
    sh'.written = sh.written + 1 := by
  obtain ⟨x, c, hx, rfl⟩ | ⟨k, e, hk, -, rfl⟩ | ⟨k, c, e, hk, -, rfl⟩ | ⟨e, -, hn, rfl⟩ := checkBody_cases h
  · cases x
    · have hx : sh.segA = none := hx
      simp only [Shadow.written_eq, Shadow.setSeg, hx, Option.isSome_some, Option.isSome_none, Bool.toNat_true, Bool.toNat_false]
      omega
    · have hx : sh.segB = none := hx
      simp only [Shadow.written_eq, Shadow.setSeg, hx, Option.isSome_some, Option.isSome_none, Bool.toNat_true, Bool.toNat_false]
      omega
  · simp only [Shadow.written_eq, countP_vset_some hk]
    omega
  · simp only [Shadow.written_eq, countP_vset_some hk]
    omega
  · simp only [Shadow.written_eq, hn, Option.isSome_some, Option.isSome_none, Bool.toNat_true, Bool.toNat_false]

theorem Shadow.written_le (sh : Shadow) : sh.written ≤ 59 := by
  have ht := List.countP_le_length (p := (·.isSome)) (l := sh.targets.toList)
  have hp := List.countP_le_length (p := (·.isSome)) (l := sh.polls.toList)
  rw [Vector.length_toList] at ht hp
  unfold Shadow.written
  split <;> split <;> split <;> omega

theorem Shadow.written_empty : Shadow.empty.written = 0 := by decide

theorem Walked.inRange {l k : Loader} (h : Walked l k) (hl : l.state = .loading) (hr : l.InRange) : k.InRange := by
  induction h with
  | start => exact hr
  | @record k code body sh offset h hc ho ih =>
    obtain ⟨-, -, hgood⟩ := ih
    have hw : k.good + 1 = sh.written := by rw [Shadow.written_record hc, hgood (h.frame.1.trans hl)]
    refine ⟨ho, ?_, fun _ => hw⟩
    show k.good + 1 ≤ 255
    have := sh.written_le
    omega

theorem CoreMove.loader_inRange {s t : State} (h : CoreMove s t) (hr : s.loader.InRange) : t.loader.InRange := by
  rcases h.loader_cases with ⟨hst, hsh, hg, ho⟩ | he | ⟨bytes, l, hl, hw, hl' | ⟨hst, hsh, hg, ho⟩⟩
  · unfold Loader.InRange
    rw [hst, hsh, hg, ho]
    exact hr
  · rcases loader_of_emptied he with hl | hl <;> rw [hl]
    · exact ⟨Nat.zero_le _, Nat.zero_le _, fun h => by cases h⟩
    · exact ⟨Nat.zero_le _, Nat.zero_le _, fun _ => Shadow.written_empty.symm⟩
  · rw [hl']
    exact hw.inRange hl hr
  · obtain ⟨hoff, hgood, -⟩ := hw.inRange hl hr
    exact ⟨by rw [ho]; exact hoff, by rw [hg]; exact hgood, fun h => absurd h hst⟩

/-! ### Reference counts up to 40 -/

theorem queueRefs_eq_zero {s : State} {x : Seg} {i : Fin 32} (hd : Routed s) (hx : (s.target i).cfg.segment ≠ x) :
    queueRefs (s.seg x).queue i = 0 := by
  refine List.countP_eq_zero.2 fun d hmem => ?_
  simp only [decide_eq_true_eq]
  intro he
  exact hx (he ▸ (hd x d hmem).2)

/-- The descriptors of one queue and all poll entries bound a reference count. -/
theorem refs_le {s : State} (hr : RefLaw s) (hd : Routed s) (hs : ∀ x, (s.seg x).InRange) (i : Fin 32) : (s.target i).refs ≤ 40 := by
  have hpolls : pollRefs s.polls i ≤ 24 := by
    have := List.countP_le_length (p := Poll.refersTo i) (l := s.polls.toList)
    rwa [Vector.length_toList] at this
  have hq (x : Seg) : queueRefs (s.seg x).queue i ≤ 16 := List.countP_le_length.trans (hs x).length
  have hi := hr i
  have hA := hq .a
  have hB := hq .b
  rw [State.seg_a] at hA
  rw [State.seg_b] at hB
  cases hx : (s.target i).cfg.segment with
  | a =>
    have := queueRefs_eq_zero (x := .b) (i := i) hd (by rw [hx]; nofun)
    rw [State.seg_b] at this
    omega
  | b =>
    have := queueRefs_eq_zero (x := .a) (i := i) hd (by rw [hx]; nofun)
    rw [State.seg_a] at this
    omega

/-! ### Cursors -/

/-- The cursors of both resolvers. -/
def Cursors (s : State) : Prop := ∀ x, (s.seg x).resolver.cursor ≤ 32

theorem Cursors.setSeg {s : State} {x : Seg} {g : Segment} (h : Cursors s) (hg : g.resolver.cursor ≤ 32) :
    Cursors (s.setSeg x g) := forall_seg_setSeg (Q := fun _ g => g.resolver.cursor ≤ 32) h hg

theorem Cursors.endSweep {s : State} (h : Cursors s) (x : Seg) : Cursors (endSweep x s) := by
  intro y
  by_cases hyx : y = x
  · subst hyx
    rcases seg_endSweep y s with hs | ⟨-, hs⟩
    · rw [hs]; exact h y
    · rw [hs]; exact Nat.zero_le _
  · rw [seg_endSweep_other s hyx]; exact h y

theorem Cursors.endSweeps {s : State} (h : Cursors s) : Cursors (endSweeps s) := (h.endSweep .a).endSweep .b

theorem Cursors.beginSweep {s : State} (h : Cursors s) (x : Seg) : Cursors (beginSweep x s) := by
  have hp : Cursors (setPending x s) := h.setSeg (Nat.zero_le _)
  exact hp.endSweep x

theorem Cursors.lookAtLine {s : State} (h : Cursors s) (x : Seg) : Cursors (lookAtLine x s) := by
  unfold Machine.lookAtLine
  dsimp only
  split
  · exact h.beginSweep x
  · exact h

theorem SegMove.cursor {g g' : Segment} (h : SegMove g g') (hg : g.resolver.cursor ≤ 32) : g'.resolver.cursor ≤ 32 := by
  cases h with
  | pause | resume | reports | item | sampled | recovered | halted | recover | queue | headFinished | headRefused | grantHead
  | grantPoll => exact hg
  | closed | faulted =>
    obtain ⟨-, -, -, -, -, hr, -⟩ := handOut_frame g _ _
    exact (congrArg Resolver.cursor hr).trans_le hg
  | grantAlert t i => exact i.isLt
  | disable => exact Nat.zero_le _

theorem Cursors.segWrite {s : State} (h : Cursors s) {x : Seg} : Cursors (segWrite x s) := by
  have hconf (c : SegConfig) : Cursors (s.updSeg x (·.configured c)) := by
    refine h.setSeg ?_
    unfold Segment.configured
    dsimp only
    split
    · exact h x
    · exact Nat.zero_le _
  unfold Machine.segWrite
  split
  · dsimp only
    split
    · exact hconf _
    · exact (hconf _).lookAtLine x
  · exact h

theorem Cursors.alertLineChange {s : State} (h : Cursors s) (x : Seg) (low : Bool) : Cursors (alertLineChange x low s) := by
  have hset : Cursors (s.updSeg x fun g => { g with alertLow := low }) := h.setSeg (h x)
  unfold Machine.alertLineChange
  dsimp only
  split
  · exact hset
  · exact hset.lookAtLine x

theorem Cursors.holdoffEnd {s t : State} {x : Seg} (h : Cursors s) (ht : holdoffEnd x s = some t) : Cursors t := by
  unfold Machine.holdoffEnd at ht
  simp only [Option.ite_none_right_eq_some, Option.some.injEq] at ht
  obtain ⟨-, rfl⟩ := ht
  split
  · exact h.beginSweep x
  · exact h.setSeg (h x)

theorem Cursors.alertResult {s t : State} {x : Seg} (h : Cursors s) (ht : alertResult x s = some t) : Cursors t := by
  unfold Machine.alertResult at ht
  dsimp only at ht
  split at ht
  · cases ht
    refine (h.setSeg ?_).endSweep x
    dsimp only
    split <;> exact h x
  · cases ht

theorem cursors_of_emptied {s t : State}
    (h : t = reload s ∨ ∃ cfgen cfgadr fsel, t = powerOnReset cfgen cfgadr fsel s) : Cursors t := fun x => by
  rcases seg_of_emptied h x with hx | ⟨-, -, hx⟩ <;> (rw [hx]; exact Nat.zero_le _)

theorem Cursors.commit {s : State} (h : Cursors s) (l : Loader) : Cursors (commit s l) := by
  have hcommit (g : Segment) (c : Option (SegConfig × Bool)) : (g.commit c).resolver = g.resolver := by
    unfold Segment.commit
    split
    · split <;> rfl
    · rfl
  rw [commit_eq]
  refine Cursors.lookAtLine (Cursors.lookAtLine (fun x => ?_) .a) .b
  have hres : ((commitSettings s l).seg x).resolver = (s.seg x).resolver := by
    unfold commitSettings commitEvents
    cases l.shadow.events <;> cases x <;> exact hcommit _ _
  rw [hres]
  exact h x

theorem Move.cursors {s t : State} (hm : Move s t) (h : Cursors s) : Cursors t := by
  cases hm with
  | port | latch | stage | events | mem | pop | target | polls => exact h
  | outcome i o =>
    have ho : Cursors (applyOutcome s i o) := by
      unfold applyOutcome
      dsimp only
      split <;> exact h
    exact ho.endSweeps
  | @edit i t =>
    have ht : Cursors (s.setTarget i t) := h
    exact ht.endSweeps
  | pollEnable hl hoff => rw [pollEnable_of_disabled hoff]; exact h
  | pollDisable hon => rw [pollDisable_of_enabled hon]; exact h
  | submit => rw [submit_eq]; exact h.setSeg (h _)
  | @retirement x _ hr =>
    obtain ⟨d, rest, c, -, -, -, rfl⟩ := retirement_cases hr
    exact h.setSeg (h x)
  | seg hs => exact h.setSeg (hs.cursor (h _))
  | @loaderEnd x =>
    have ht : Cursors (s.setSeg x { s.seg x with item := none }) := h.setSeg (h x)
    exact forall_seg_withLoader (Q := fun _ g => g.resolver.cursor ≤ 32) ht
  | @enable x =>
    have ht : Cursors (s.setSeg x { s.seg x with state := .ready, streak := 0 }) := h.setSeg (h x)
    exact ht.lookAtLine x
  | segWrite => exact h.segWrite
  | alertLine x low => exact h.alertLineChange x low
  | holdoffEnd ht => exact h.holdoffEnd ht
  | alertResult ht => exact h.alertResult ht
  | softReset =>
    have ht : Cursors (clearWork s) := fun | .a => Nat.zero_le _ | .b => Nat.zero_le _
    exact (ht.lookAtLine .a).lookAtLine .b
  | reload => exact cursors_of_emptied (.inl rfl)
  | powerOnReset => exact cursors_of_emptied (.inr ⟨_, _, _, rfl⟩)
  | rstnLow => exact fun | .a => h .a | .b => h .b
  | loaderReadReport ht =>
    obtain ⟨r, bytes, l, -, -, -, rfl | ⟨reason, rfl⟩ | rfl⟩ := loaderReadReport_cases ht
    · exact fun | .a => h .a | .b => h .b
    · exact h
    · exact h.commit l

/-! ### Flags, mask, watermark and staging registers -/

/-- The latched flags, the mask, the watermark and the staging registers hold nothing they have no field for. -/
structure Controls (s : State) : Prop where
  latched : s.latched &&& ~~~ latchedBits = 0
  mask : s.mask &&& ~~~ causeBits = 0
  watermark : 1 ≤ s.watermark.toNat ∧ s.watermark.toNat ≤ 32
  staging : StagingClean s

/-- Event settings that hold nothing they have no field for. -/
def EventSettings.Lawful (e : EventSettings) : Prop :=
  e.mask &&& ~~~ causeBits = 0 ∧ 1 ≤ e.watermark.toNat ∧ e.watermark.toNat ≤ 32

/-- The event settings of the shadow tables. -/
def Shadow.Controls (sh : Shadow) : Prop := ∀ e, sh.events = some e → e.Lawful

theorem eventsBody_lawful {b : List Byte} {e : EventSettings} (h : eventsBody b = some e) : e.Lawful := by
  unfold eventsBody at h
  simp only [Option.ite_none_right_eq_some, Option.some.injEq, Bool.and_eq_true, decide_eq_true_eq] at h
  obtain ⟨⟨⟨-, hlo⟩, hhi⟩, rfl⟩ := h
  have hw : ((byteAt b 3).setWidth 6).toNat = (byteAt b 3).toNat := by
    rw [BitVec.toNat_setWidth, Nat.mod_eq_of_lt (by omega)]
  refine ⟨?_, by rw [hw]; exact hlo, by rw [hw]; exact hhi⟩
  rw [BitVec.and_assoc, BitVec.and_not_self]
  exact BitVec.and_zero

theorem Shadow.record_controls (sh : Shadow) (code : Byte) (b : List Byte) (sh' : Shadow)
    (h : checkBody sh code b = .ok sh') (hc : sh.Controls) : sh'.Controls := by
  obtain ⟨x, c, -, rfl⟩ | ⟨k, e, hk, -, rfl⟩ | ⟨k, c, e, -, -, rfl⟩ | ⟨e, he, -, rfl⟩ := checkBody_cases h
  · unfold Shadow.Controls
    rwa [Shadow.setSeg_events]
  · exact hc
  · exact hc
  · intro e' he'
    cases he'
    exact eventsBody_lawful he

/-- The staging registers, the mask and the watermark. -/
def State.settings (s : State) : Word × BitVec 6 × Vector Word 5 × Vector Word 6 × Vector Word 8 × Vector Word 3 :=
  (s.mask, s.watermark, s.ds, s.ts, s.ps, s.ss)

theorem stagingClean_congr {s t : State} (hds : t.ds = s.ds) (hts : t.ts = s.ts) (hps : t.ps = s.ps) (hss : t.ss = s.ss)
    (h : StagingClean s) : StagingClean t := by
  rw [stagingClean_iff] at h ⊢
  rwa [hds, hts, hps, hss]

theorem Controls.congr {s t : State} (h : Controls s) (hs : t.settings = s.settings) (hl : t.latched &&& ~~~ latchedBits = 0) :
    Controls t := by
  simp only [State.settings, Prod.mk.injEq] at hs
  obtain ⟨hmask, hwater, hds, hts, hps, hss⟩ := hs
  refine ⟨hl, by rw [hmask]; exact h.mask, by rw [hwater]; exact h.watermark, ?_⟩
  exact stagingClean_congr hds hts hps hss h.staging

theorem settings_setSeg (s : State) (x : Seg) (g : Segment) : (s.setSeg x g).settings = s.settings := by cases x <;> rfl

theorem latched_raise {s : State} (h : s.latched &&& ~~~ latchedBits = 0) (c : Latched) :
    (s.raise c).latched &&& ~~~ latchedBits = 0 := by
  show (s.latched ||| causeBit c) &&& ~~~ latchedBits = 0
  rw [BitVec.and_comm, BitVec.and_or_distrib_left, BitVec.and_comm, h, BitVec.and_comm, causeBit_clean, BitVec.or_self]

theorem Controls.raise {s : State} (h : Controls s) (c : Latched) : Controls (s.raise c) := h.congr rfl (latched_raise h.latched c)

theorem Controls.setSeg {s : State} (h : Controls s) (x : Seg) (g : Segment) : Controls (s.setSeg x g) :=
  h.congr (settings_setSeg s x g) (by rw [State.setSeg_latched]; exact h.latched)

theorem Controls.endSweep {s : State} (h : Controls s) (x : Seg) : Controls (endSweep x s) := by
  unfold Machine.endSweep
  dsimp only
  split
  · split
    · exact (h.raise _).setSeg x _
    · exact h.setSeg x _
  · exact h

theorem Controls.endSweeps {s : State} (h : Controls s) : Controls (endSweeps s) := (h.endSweep .a).endSweep .b

theorem Controls.beginSweep {s : State} (h : Controls s) (x : Seg) : Controls (beginSweep x s) := (h.setSeg x _).endSweep x

theorem Controls.lookAtLine {s : State} (h : Controls s) (x : Seg) : Controls (lookAtLine x s) := by
  unfold Machine.lookAtLine
  dsimp only
  split
  · exact h.beginSweep x
  · exact h

theorem Walked.controls {l k : Loader} (h : Walked l k) (hc : l.shadow.Controls) : k.shadow.Controls := by
  induction h with
  | start => exact hc
  | record _ hr _ ih => exact Shadow.record_controls _ _ _ _ hr ih

theorem Controls.commit {s : State} {l : Loader} (h : Controls s) (hl : l.shadow.Controls) : Controls (commit s l) := by
  have htables : Controls (commitTables s l) := h.congr rfl h.latched
  have hevents : Controls (commitEvents (commitTables s l) l.shadow.events) := by
    unfold commitEvents
    split
    · next e he =>
      obtain ⟨hmask, hwater⟩ := hl e he
      exact ⟨h.latched, hmask, hwater, stagingClean_congr (s := s) rfl rfl rfl rfl h.staging⟩
    · exact htables
  rw [commit_eq]
  exact ((hevents.raise .loaded).lookAtLine .a).lookAtLine .b

theorem controls_reset : Controls State.reset := by
  refine ⟨BitVec.zero_and, BitVec.zero_and, ⟨Nat.le_refl 1, by decide⟩, (stagingClean_iff _).2 ⟨?_, ?_, ?_, ?_⟩⟩ <;>
    (intro n; simp [State.reset, Vector.get_eq_getElem, CleanAt])

theorem Move.controls {s t : State} (hm : Move s t) (hsh : s.loader.shadow.Controls) (h : Controls s) : Controls t := by
  cases hm with
  | port | mem | pop | target | polls | rstnLow => exact h.congr rfl h.latched
  | latch hl => exact h.congr rfl (hl h.latched)
  | stage hst => exact ⟨h.latched, h.mask, h.watermark, hst h.staging⟩
  | events hmask hw => exact ⟨h.latched, hmask h.mask, hw h.watermark, stagingClean_congr (s := s) rfl rfl rfl rfl h.staging⟩
  | outcome i o =>
    have ho : Controls (applyOutcome s i o) := by
      unfold applyOutcome
      dsimp only
      split
      · exact (h.congr rfl h.latched : Controls (s.setTarget i ((s.target i).judged o).1)).raise _
      · exact h.congr rfl h.latched
    exact ho.endSweeps
  | @edit i t =>
    have ht : Controls (s.setTarget i t) := h.congr rfl h.latched
    exact ht.endSweeps
  | pollEnable hl hoff => rw [pollEnable_of_disabled hoff]; exact h.congr rfl h.latched
  | pollDisable hon => rw [pollDisable_of_enabled hon]; exact h.congr rfl h.latched
  | submit => rw [submit_eq]; exact (h.setSeg _ _).congr rfl (h.setSeg _ _).latched
  | retirement hr =>
    obtain ⟨d, rest, c, -, -, -, rfl⟩ := retirement_cases hr
    exact (h.setSeg _ _).congr rfl (h.setSeg _ _).latched
  | seg hs => exact h.setSeg _ _
  | loaderEnd => exact (h.setSeg _ _).congr rfl (h.setSeg _ _).latched
  | enable => exact (h.setSeg _ _).lookAtLine _
  | @segWrite x c hss =>
    simp only [Machine.segWrite, hss]
    split
    · exact h.setSeg x _
    · exact (h.setSeg x _).lookAtLine x
  | alertLine x low =>
    unfold Machine.alertLineChange
    dsimp only
    split
    · exact h.setSeg x _
    · exact (h.setSeg x _).lookAtLine x
  | @holdoffEnd x _ ht =>
    unfold Machine.holdoffEnd at ht
    simp only [Option.ite_none_right_eq_some, Option.some.injEq] at ht
    obtain ⟨-, rfl⟩ := ht
    split
    · exact h.beginSweep x
    · exact h.setSeg x _
  | @alertResult x _ ht =>
    unfold Machine.alertResult at ht
    dsimp only at ht
    split at ht
    · cases ht
      exact (h.setSeg x _).endSweep x
    · cases ht
  | softReset =>
    have ht : Controls (clearWork s) := h.congr rfl BitVec.zero_and
    exact (ht.lookAtLine .a).lookAtLine .b
  | reload => exact ⟨BitVec.zero_and, BitVec.zero_and, ⟨Nat.le_refl 1, Nat.le_of_ble_eq_true rfl⟩, stagingClean_congr (s := s) rfl rfl rfl rfl h.staging⟩
  | powerOnReset cfgen => exact controls_reset.congr (by cases cfgen <;> rfl) (by cases cfgen <;> exact BitVec.zero_and)
  | loaderReadReport ht =>
    obtain ⟨r, bytes, l, -, -, hw, rfl | ⟨reason, rfl⟩ | rfl⟩ := loaderReadReport_cases ht
    · exact h.congr rfl h.latched
    · have hl : Controls { s with loader := { l with state := .failed, reason := reason, bytes := [], shadow := .empty } } :=
        h.congr rfl h.latched
      exact hl.raise .loadFail
    · exact h.commit (hw.controls hsh)

/-! ### O15 -/

/-- The ranges of the bare part. -/
def CoreRange (s : State) : Prop :=
  RingInRange s ∧ (∀ x, (s.seg x).InRange) ∧ (∀ i, (s.target i).failures ≤ 15) ∧ (∀ i, (s.poll i).CountsLawful) ∧
    s.loader.InRange ∧ s.loader.shadow.Controls

theorem Segment.inRange_bare (g : Segment) : g.bare.InRange ↔ g.InRange := ⟨fun h => { h with }, fun h => { h with }⟩

theorem CoreRange.bare (s : State) : CoreRange s.bare ↔ CoreRange s :=
  and_congr Iff.rfl (and_congr_left' (forall_congr' fun x => by rw [State.bare_seg]; exact Segment.inRange_bare _))

theorem CoreMove.coreRange {s t : State} (h : CoreMove s t) (hr : CoreRange s) : CoreRange t := by
  obtain ⟨hring, hsegs, htargets, hpolls, hloader, hshadow⟩ := hr
  refine ⟨h.ringInRange hsegs hring, h.segs_inRange hsegs, ?_, ?_, h.loader_inRange hloader, ?_⟩
  · exact h.targets_keep (P := fun t => t.failures ≤ 15) (fun _ _ hs => hs.range) (fun _ _ => id)
      (fun t h0 _ => by rw [h0]; exact Nat.zero_le _) htargets
  · exact h.polls_keep (P := Poll.CountsLawful) (fun _ _ hk => hk.counts)
      (fun _ _ _ _ hm ho hp => by rwa [Poll.CountsLawful, hm, ho])
      (fun p _ _ hm ho => by simp [Poll.CountsLawful, hm, ho]) hpolls
  · exact h.shadow_keeps (P := Shadow.Controls) (fun e he => by cases he) Shadow.record_controls hshadow

/-- All that O15 keeps, but for the bound on reference counts, which follows from it. -/
def InRange (s : State) : Prop := (References s ∧ CoreRange s) ∧ Cursors s ∧ Controls s

theorem inRange_iff (s : State) :
    (LoadQuiet s ∧ RefLaw s ∧ RouteLaw s) ∧ RangeLaw s ∧ WatermarkLaw s ∧ ReservedLaw s ↔ InRange s := by
  constructor
  · rintro ⟨href, ⟨hring, hsegs, htargets, hpolls, hloader⟩, ⟨hwater, hshwater⟩, hlatched, hmask, hshmask, hstaging⟩
    refine ⟨⟨href, hring, fun x => ?_, fun i => (htargets i).1, hpolls, hloader, fun e he => ⟨hshmask e he, hshwater e he⟩⟩,
      fun x => ?_, hlatched, hmask, hwater, hstaging⟩
    · obtain ⟨hlen, hstreak, -, hheld, hitem, hreport, hrec⟩ := hsegs x
      exact ⟨hlen, hstreak, hheld, hitem, hreport, hrec⟩
    · obtain ⟨-, -, hcursor, -⟩ := hsegs x
      exact hcursor
  · rintro ⟨⟨href, hring, hsegs, htargets, hpolls, hloader, hshadow⟩, hcursors, hctl⟩
    refine ⟨href, ⟨hring, fun x => ?_, fun i => ⟨htargets i, ?_⟩, hpolls, hloader⟩, ⟨hctl.watermark, fun e he => (hshadow e he).2⟩,
      hctl.latched, hctl.mask, fun e he => (hshadow e he).1, hctl.staging⟩
    · have hx := hsegs x
      exact ⟨hx.length, hx.streak, hcursors x, hx.held, hx.item, hx.report, hx.recovery⟩
    · obtain ⟨-, hr, hd, -⟩ := href
      exact refs_le hr hd hsegs i

/-- Settles O15: every move keeps all counts in range and unused bits at 0; the bound of 40 follows from the law of
references and the lengths of the queues. -/
theorem stepKeepsRangesAndReservedBits : Obligations.StepKeepsRangesAndReservedBits := by
  unfold Obligations.StepKeepsRangesAndReservedBits
  simp only [inRange_iff]
  intro s t h hstep
  refine step_keeps (P := InRange) (fun s t hm ⟨⟨href, hcore⟩, hcursors, hctl⟩ => ⟨?_, hm.cursors hcursors, ?_⟩) hstep h
  · exact Move.keeps_of_core (P := fun s => References s ∧ CoreRange s)
      (fun s => and_congr (References.bare s) (CoreRange.bare s))
      (fun _ _ hc ⟨href, hcore⟩ => ⟨hc.references href, hc.coreRange hcore⟩) s t hm ⟨href, hcore⟩
  · obtain ⟨-, -, -, -, -, hshadow⟩ := hcore
    exact hm.controls hshadow hctl

end Sys2Proof.Machine
end

section
/-! SUPPORT. What changes a register, the ring and the page bytes, over all commands (R48, R63, R67, R120, R121, R175,
R181, R194). -/

namespace Sys2Proof.Machine

/-! ### The registers a command may write -/

/-- The plain part `p` with what a command may write of it taken from `q`. -/
def plainAfter (c : Instr) (p q : State) : State :=
  match c with
  | .tickAdvance => { p with tick := q.tick, wires := q.wires }
  | .tickLoRead => { p with capture := q.capture }
  | .pagePtrWrite _ => { p with ptrPage := q.ptrPage, ptrOffset := q.ptrOffset }
  | .pageDataRead => { p with ptrOffset := q.ptrOffset }
  | .pageDataWrite _ => { p with ptrOffset := q.ptrOffset, mem := q.mem }
  | .evMaskWrite _ => { p with mask := q.mask }
  | .evCtrlWrite _ => { p with clearMode := q.clearMode, watermark := q.watermark }
  | .reload _ =>
    { p with mask := q.mask, clearMode := q.clearMode, watermark := q.watermark, ring := q.ring, targets := q.targets }
  | .loaderReadReport =>
    { p with mask := q.mask, clearMode := q.clearMode, watermark := q.watermark, targets := q.targets }
  | .registerWrite _ _ => { p with ds := q.ds, ts := q.ts, ps := q.ps, ss := q.ss }
  | .tgtRead _ => { p with ts := q.ts }
  | .pollRead _ => { p with ps := q.ps }
  | .segRead _ => { p with ss := q.ss }
  | .submit _ => { p with targets := q.targets }
  | .pollEnable _ => { p with targets := q.targets }
  | .pollDisable _ => { p with targets := q.targets }
  | .softReset _ => { p with ring := q.ring, targets := q.targets }
  | .pop _ => { p with ring := q.ring }
  | .retirement _ => { p with ring := q.ring, targets := q.targets }
  | .pageStore _ _ => { p with mem := q.mem }
  | .powerOnReset _ _ _ => { q with pending := p.pending }
  | _ => p

theorem plainAfter_of_next {c : Instr} {s r u : State} (h : (Host.Outcome.next r : Result) = .next u)
    (hr : r.plain = plainAfter c s.plain r.plain) : u.plain = plainAfter c s.plain u.plain := by
  cases h
  exact hr

/-- A command writes of the plain part what its effect writes. -/
theorem command_plainAfter {c : Instr} {code arg : Byte} {limit : Nat} {checks : State → List (Bool × ResultCode)}
    {effect : State → State} {s : State} (same : s.plain = plainAfter c s.plain s.plain)
    (he : ∀ t : State, t.plain = s.plain → (effect t).plain = plainAfter c s.plain (effect t).plain) :
    (command code arg limit checks effect s).plain = plainAfter c s.plain (command code arg limit checks effect s).plain := by
  rcases command_cases code arg limit checks effect s with ⟨-, h⟩ | ⟨r, -, h⟩ | ⟨-, -, -, -, h⟩
  · rw [h]; exact same
  · rw [h]; exact same
  · rw [h]; exact he _ rfl

/-- A happening writes of the plain part what is taken of it. -/
theorem happen_plainAfter {c : Instr} {s : State} {taken : Option State} (same : s.plain = plainAfter c s.plain s.plain)
    (h : ∀ t, taken = some t → t.plain = plainAfter c s.plain t.plain) :
    (happen s taken).plain = plainAfter c s.plain (happen s taken).plain := by
  rcases happen_cases s taken with hsame | ⟨t, -, ht, hsame⟩
  · rw [hsame]; exact same
  · rw [hsame]; exact h t ht

theorem happen_some_plainAfter {c : Instr} {s t : State} (same : s.plain = plainAfter c s.plain s.plain)
    (h : t.plain = plainAfter c s.plain t.plain) :
    (happen s (some t)).plain = plainAfter c s.plain (happen s (some t)).plain :=
  happen_plainAfter same fun u hu => by cases hu; exact h

theorem plain_takeMillisecond (s : State) : (takeMillisecond s).plain = { s.plain with wires := s.wires.tail } := by
  rcases takeMillisecond_cases s with ⟨hw, h⟩ | ⟨seen, rest, hw, h⟩
  · rw [h, hw]
    exact congrArg (fun w => { s.plain with wires := w }) hw
  · rw [h, (takeWires_quietly seen _).plain, hw]
    rfl

/-- A queue, an entry, the holders and the ring stored leave the rest of the plain part. -/
theorem plain_stored (s : State) (x : Seg) (g : Segment) (i : Fin 32) (t : Target) (h : Vector (Option Holder) 32)
    (ring : List Completion) :
    State.plain { (s.setSeg x g).setTarget i t with ring := ring, holders := h } =
      { s.plain with
        ring := ring
        targets := (State.plain { (s.setSeg x g).setTarget i t with ring := ring, holders := h }).targets } := by
  cases x <;> rfl

theorem plain_submit (s : State) : (submit s).plain = { s.plain with targets := (submit s).plain.targets } := by
  obtain ⟨x, g, i, t, h, e⟩ : ∃ x g i t h, submit s = { (s.setSeg x g).setTarget i t with holders := h } :=
    ⟨_, _, _, _, _, submit_eq s⟩
  rw [e]
  cases x <;> rfl

theorem plain_pollEnable (i : Fin 24) (s : State) :
    (pollEnable i s).plain = { s.plain with targets := (pollEnable i s).plain.targets } := by
  unfold pollEnable
  dsimp only
  split <;> rfl

theorem plain_pollDisable (i : Fin 24) (s : State) :
    (pollDisable i s).plain = { s.plain with targets := (pollDisable i s).plain.targets } := by
  unfold pollDisable
  dsimp only
  split <;> rfl

theorem plain_clearWork (s : State) :
    (clearWork s).plain = { s.plain with ring := [], targets := (clearWork s).plain.targets } := rfl

theorem plain_softReset (s : State) :
    (softReset s).plain = { s.plain with ring := [], targets := (softReset s).plain.targets } := by
  rw [softReset, plain_lookAtLine, plain_lookAtLine, plain_clearWork]

theorem plain_reload (s : State) :
    (reload s).plain =
      { s.plain with
        ring := [], mask := 0, clearMode := .writeOne, watermark := 1, targets := (reload s).plain.targets } := rfl

theorem plain_retirement {x : Seg} {s t : State} (h : retirement x s = some t) :
    t.plain = { s.plain with ring := t.plain.ring, targets := t.plain.targets } := by
  obtain ⟨d, rest, c, -, -, -, rfl⟩ := retirement_cases h
  exact plain_stored ..

theorem plain_pageStore {x : Seg} {byte : Byte} {s t : State} (h : pageStore x byte s = some t) :
    t.plain = { s.plain with mem := t.plain.mem } := by
  unfold pageStore at h
  split at h
  · split at h
    · cases h
      rw [State.updSeg_eq, plain_setSeg]
      rfl
    · cases h
  · cases h

theorem plain_commit (s : State) (l : Loader) :
    (commit s l).plain = { s.plain with
      mask := (commit s l).plain.mask, clearMode := (commit s l).plain.clearMode
      watermark := (commit s l).plain.watermark, targets := (commit s l).plain.targets } := by
  rw [commit_eq, plain_lookAtLine, plain_lookAtLine]
  unfold commitSettings commitEvents
  cases l.shadow.events <;> rfl

theorem plain_loaderReadReport {s t : State} (h : loaderReadReport s = some t) :
    t.plain =
      { s.plain with
        mask := t.plain.mask, clearMode := t.plain.clearMode, watermark := t.plain.watermark
        targets := t.plain.targets } := by
  obtain ⟨r, bytes, l, -, -, -, rfl | ⟨reason, rfl⟩ | rfl⟩ := loaderReadReport_cases h
  · rfl
  · rfl
  · exact plain_commit s l

theorem plain_writePlain (s : State) (addr : BitVec 6) (w : Word) :
    (writePlain s addr w).plain =
      { s.plain with
        ds := (writePlain s addr w).plain.ds, ts := (writePlain s addr w).plain.ts
        ps := (writePlain s addr w).plain.ps, ss := (writePlain s addr w).plain.ss } := by
  unfold writePlain
  dsimp only
  split <;> rfl

/-- Every command writes of the plain part at most what it may. -/
theorem exec_plain {c : Instr} {s t : State} (h : exec c s = .next t) : t.plain = plainAfter c s.plain t.plain := by
  cases c with
  | submit arg => exact plainAfter_of_next h (command_plainAfter rfl fun u hu => by rw [plain_submit, hu]; rfl)
  | pollEnable arg => exact plainAfter_of_next h (command_plainAfter rfl fun u hu => by rw [plain_pollEnable, hu]; rfl)
  | pollDisable arg => exact plainAfter_of_next h (command_plainAfter rfl fun u hu => by rw [plain_pollDisable, hu]; rfl)
  | pop arg => exact plainAfter_of_next h (command_plainAfter rfl fun u hu => by
      show { u.plain with ring := u.ring.tail } = _
      rw [hu]; rfl)
  | segRead arg => exact plainAfter_of_next h (command_plainAfter rfl fun u hu => by
      show { u.plain with ss := segImage (u.seg (segOf arg)).cfg } = _
      rw [hu]; rfl)
  | tgtRead arg => exact plainAfter_of_next h (command_plainAfter rfl fun u hu => by
      show { u.plain with ts := targetImage (u.target (idx32 arg.toNat)) } = _
      rw [hu]; rfl)
  | pollRead arg => exact plainAfter_of_next h (command_plainAfter rfl fun u hu => by
      show { u.plain with ps := pollImage (u.poll (idx24 arg.toNat)) } = _
      rw [hu]; rfl)
  | softReset arg => exact plainAfter_of_next h (command_plainAfter rfl fun u hu => by rw [plain_softReset, hu]; rfl)
  | reload arg => exact plainAfter_of_next h (command_plainAfter rfl fun u hu => by rw [plain_reload, hu]; rfl)
  | pagePtrWrite w => exact plainAfter_of_next h (happen_some_plainAfter rfl rfl)
  | pageDataRead => exact plainAfter_of_next h (happen_some_plainAfter rfl (by dsimp only; split <;> rfl))
  | pageDataWrite w => exact plainAfter_of_next h (happen_some_plainAfter rfl (by split <;> rfl))
  | tickLoRead => exact plainAfter_of_next h (happen_some_plainAfter rfl rfl)
  | evMaskWrite w => exact plainAfter_of_next h (happen_some_plainAfter rfl rfl)
  | evCtrlWrite w => exact plainAfter_of_next h (happen_some_plainAfter rfl (by split <;> rfl))
  | registerWrite addr w =>
    simp only [exec, execRegisterWrite] at h
    split at h
    · exact plainAfter_of_next h (happen_some_plainAfter rfl (plain_writePlain s addr w))
    · cases h
  | powerOnReset cfgen cfgadr fsel => exact plainAfter_of_next h (by cases cfgen <;> rfl)
  | tickAdvance =>
    refine plainAfter_of_next h (happen_some_plainAfter rfl ?_)
    have hp : (tickAdvance (takeMillisecond s)).plain =
        { (takeMillisecond s).plain with tick := (takeMillisecond s).tick + 1 } := rfl
    rw [hp, plain_takeMillisecond]
    rfl
  | pageStore x byte => exact plainAfter_of_next h (happen_plainAfter rfl fun _ ht => plain_pageStore ht)
  | retirement x => exact plainAfter_of_next h (happen_plainAfter rfl fun _ ht => plain_retirement ht)
  | loaderReadReport => exact plainAfter_of_next h (happen_plainAfter rfl fun _ ht => plain_loaderReadReport ht)
  | _ => exact (exec_quietly (by trivial) h).plain

end Sys2Proof.Machine
end

section
/-! SUPPORT. The frames of the registers, the ring, the page bytes and the referenced targets, read off what every command
writes (R10, R48, R63, R67, R120, R121, R175, R181, R194). -/

namespace Sys2Proof.Machine

/-! ### Every command of its row answers (O2) -/

theorem plainAfter_pending (c : Instr) (p q : State) : (plainAfter c p q).pending = p.pending := by cases c <;> rfl

theorem exec_pending {c : Instr} {s t : State} (h : exec c s = .next t) : t.pending = s.pending :=
  (congrArg State.pending (exec_plain h) : t.plain.pending = _).trans (plainAfter_pending c s.plain t.plain)

/-- A command of its row answers a next state. -/
theorem exec_answers {c : Instr} (hc : c.wf = true) (s : State) : ∃ t, exec c s = .next t := by
  cases c with
  | badCommand w => exact ⟨_, if_pos hc⟩
  | registerWrite addr w => exact ⟨_, if_pos hc⟩
  | _ => exact ⟨_, rfl⟩

/-- A term that is no command of its row is refused. -/
theorem exec_illFormed {c : Instr} (hc : c.wf = false) (s : State) : exec c s = .refused .illFormed := by
  cases c with
  | badCommand w => exact if_neg (Bool.eq_false_iff.1 hc)
  | registerWrite addr w => exact if_neg (Bool.eq_false_iff.1 hc)
  | _ => cases hc

/-- Settles O2: every arm of `exec` answers where its term is well formed, and the waiting commands are in the part that
no command writes. -/
theorem wellFormedCommandsComplete : Obligations.WellFormedCommandsComplete := by
  unfold Obligations.WellFormedCommandsComplete
  refine fun c s => ⟨fun hc => ?_, fun hc => exec_illFormed hc s⟩
  obtain ⟨t, ht⟩ := exec_answers hc s
  exact ⟨t, ht, exec_pending ht⟩

/-! ### Registers (O6) -/

section
variable {c : Instr} (hpor : ∀ cfgen cfgadr fsel, c ≠ .powerOnReset cfgen cfgadr fsel) (p q : State)
include hpor

theorem plainAfter_tick (h : c ≠ .tickAdvance) : (plainAfter c p q).tick = p.tick ∧ (plainAfter c p q).wires = p.wires := by
  cases c with
  | powerOnReset cfgen cfgadr fsel => exact absurd rfl (hpor cfgen cfgadr fsel)
  | tickAdvance => exact absurd rfl h
  | _ => exact ⟨rfl, rfl⟩

theorem plainAfter_capture (h : c ≠ .tickLoRead) : (plainAfter c p q).capture = p.capture := by
  cases c with
  | powerOnReset cfgen cfgadr fsel => exact absurd rfl (hpor cfgen cfgadr fsel)
  | tickLoRead => exact absurd rfl h
  | _ => rfl

theorem plainAfter_ptrPage (h : ∀ w, c ≠ .pagePtrWrite w) : (plainAfter c p q).ptrPage = p.ptrPage := by
  cases c with
  | powerOnReset cfgen cfgadr fsel => exact absurd rfl (hpor cfgen cfgadr fsel)
  | pagePtrWrite w => exact absurd rfl (h w)
  | _ => rfl

theorem plainAfter_ptrOffset (hp : ∀ w, c ≠ .pagePtrWrite w) (hr : c ≠ .pageDataRead) (hw : ∀ w, c ≠ .pageDataWrite w) :
    (plainAfter c p q).ptrOffset = p.ptrOffset := by
  cases c with
  | powerOnReset cfgen cfgadr fsel => exact absurd rfl (hpor cfgen cfgadr fsel)
  | pagePtrWrite w => exact absurd rfl (hp w)
  | pageDataRead => exact absurd rfl hr
  | pageDataWrite w => exact absurd rfl (hw w)
  | _ => rfl

theorem plainAfter_straps :
    (plainAfter c p q).cfgen = p.cfgen ∧ (plainAfter c p q).cfgadr = p.cfgadr ∧ (plainAfter c p q).fsel = p.fsel := by
  cases c with
  | powerOnReset cfgen cfgadr fsel => exact absurd rfl (hpor cfgen cfgadr fsel)
  | _ => exact ⟨rfl, rfl, rfl⟩

theorem plainAfter_mask (hw : ∀ w, c ≠ .evMaskWrite w) (hr : ∀ a, c ≠ .reload a) (hl : c ≠ .loaderReadReport) :
    (plainAfter c p q).mask = p.mask := by
  cases c with
  | powerOnReset cfgen cfgadr fsel => exact absurd rfl (hpor cfgen cfgadr fsel)
  | evMaskWrite w => exact absurd rfl (hw w)
  | reload a => exact absurd rfl (hr a)
  | loaderReadReport => exact absurd rfl hl
  | _ => rfl

theorem plainAfter_evCtrl (hw : ∀ w, c ≠ .evCtrlWrite w) (hr : ∀ a, c ≠ .reload a) (hl : c ≠ .loaderReadReport) :
    (plainAfter c p q).clearMode = p.clearMode ∧ (plainAfter c p q).watermark = p.watermark := by
  cases c with
  | powerOnReset cfgen cfgadr fsel => exact absurd rfl (hpor cfgen cfgadr fsel)
  | evCtrlWrite w => exact absurd rfl (hw w)
  | reload a => exact absurd rfl (hr a)
  | loaderReadReport => exact absurd rfl hl
  | _ => exact ⟨rfl, rfl⟩

theorem plainAfter_staging (hw : ∀ a w, c ≠ .registerWrite a w) :
    (plainAfter c p q).ds = p.ds ∧ ((∀ a, c ≠ .tgtRead a) → (plainAfter c p q).ts = p.ts) ∧
      ((∀ a, c ≠ .pollRead a) → (plainAfter c p q).ps = p.ps) ∧
      ((∀ a, c ≠ .segRead a) → (plainAfter c p q).ss = p.ss) := by
  cases c with
  | powerOnReset cfgen cfgadr fsel => exact absurd rfl (hpor cfgen cfgadr fsel)
  | registerWrite a w => exact absurd rfl (hw a w)
  | tgtRead a => exact ⟨rfl, fun h => absurd rfl (h a), fun _ => rfl, fun _ => rfl⟩
  | pollRead a => exact ⟨rfl, fun _ => rfl, fun h => absurd rfl (h a), fun _ => rfl⟩
  | segRead a => exact ⟨rfl, fun _ => rfl, fun _ => rfl, fun h => absurd rfl (h a)⟩
  | _ => exact ⟨rfl, fun _ => rfl, fun _ => rfl, fun _ => rfl⟩

end

/-- Settles O6: each register by the commands that `plainAfter` lets write it. -/
theorem registersChangeOnlyByTheirCommands : Obligations.RegistersChangeOnlyByTheirCommands := by
  unfold Obligations.RegistersChangeOnlyByTheirCommands
  intro c s t h hpor
  have hplain := exec_plain h
  have reads : ∀ {α : Type} (f : State → α), f t.plain = f (plainAfter c s.plain t.plain) := fun f => congrArg f hplain
  refine ⟨fun ht => ?tick, fun hc => ?capture, fun hp => ?page, fun hp hr hw => ?offset, ?straps, fun hw hr hl => ?mask,
    fun hw hr hl => ?evCtrl, fun hw => ?staging⟩
  case tick => exact (plainAfter_tick hpor _ _ ht).imp (reads State.tick).trans (reads State.wires).trans
  case capture => exact (reads State.capture).trans (plainAfter_capture hpor _ _ hc)
  case page => exact (reads State.ptrPage).trans (plainAfter_ptrPage hpor _ _ hp)
  case offset => exact (reads State.ptrOffset).trans (plainAfter_ptrOffset hpor _ _ hp hr hw)
  case straps =>
    exact (plainAfter_straps hpor _ _).imp (reads State.cfgen).trans
      (And.imp (reads State.cfgadr).trans (reads State.fsel).trans)
  case mask => exact (reads State.mask).trans (plainAfter_mask hpor _ _ hw hr hl)
  case evCtrl =>
    exact (plainAfter_evCtrl hpor _ _ hw hr hl).imp (reads State.clearMode).trans (reads State.watermark).trans
  case staging =>
    obtain ⟨hds, hts, hps, hss⟩ := plainAfter_staging hpor s.plain t.plain hw
    exact ⟨(reads State.ds).trans hds, fun ha => (reads State.ts).trans (hts ha), fun ha => (reads State.ps).trans (hps ha),
      fun ha => (reads State.ss).trans (hss ha)⟩

/-! ### The Completion Ring (O7) -/

/-- The entry of a settled descriptor carries the stamp of its retirement. -/
theorem completion_stamp {d : Descriptor} {now : Tick} {c : Completion} (h : d.completion now = some c) :
    c.stamp = stampOf now := by
  unfold Descriptor.completion at h
  dsimp only at h
  split at h <;> cases h <;> rfl

theorem ring_of_plain {c : Instr} {s t : State} (h : exec c s = .next t) (hc : (plainAfter c s.plain t.plain).ring = s.ring) :
    t.ring = s.ring := (congrArg State.ring (exec_plain h) : t.plain.ring = _).trans hc

theorem ring_of_pop {arg : Byte} {s t : State} (h : exec (.pop arg) s = .next t) :
    t.ring = s.ring ∨ ∃ e, s.ring = e :: t.ring := by
  cases h
  rcases command_cases 0x02 arg 256 (fun t => [(t.ring.isEmpty, .ringEmpty)]) (fun t => { t with ring := t.ring.tail }) s with
    ⟨-, h⟩ | ⟨r, -, h⟩ | ⟨-, -, -, hc, h⟩
  · rw [h]; exact .inl rfl
  · rw [h]; exact .inl rfl
  · have hne : s.ring.isEmpty = false := (firstFailing_cons_eq_none.1 hc).1
    rw [h]
    cases hr : s.ring with
    | nil => simp [hr] at hne
    | cons e rest => exact .inr ⟨e, rfl⟩

/-- A reset command empties the ring, or leaves it where it is refused. -/
theorem ring_of_command {code arg : Byte} {limit : Nat} {checks : State → List (Bool × ResultCode)} {effect : State → State}
    {s : State} (he : ∀ u, (effect u).ring = []) :
    (command code arg limit checks effect s).ring = s.ring ∨ (command code arg limit checks effect s).ring = [] := by
  rcases command_cases code arg limit checks effect s with ⟨-, h⟩ | ⟨r, -, h⟩ | ⟨-, -, -, -, h⟩
  · rw [h]; exact .inl rfl
  · rw [h]; exact .inl rfl
  · rw [h]; exact .inr (he _)

theorem ring_softReset (s : State) : (softReset s).ring = [] :=
  (congrArg State.ring (plain_softReset s) : (softReset s).plain.ring = _)

theorem ring_retirement {x : Seg} {s t : State} (h : retirement x s = some t) :
    ∃ e, s.ring.length < 32 ∧ t.ring = s.ring ++ [e] ∧ e.stamp = s.tick.setWidth 16 := by
  obtain ⟨d, rest, c, -, hc, hroom, rfl⟩ := retirement_cases h
  exact ⟨c, hroom, rfl, completion_stamp hc⟩

/-- Settles O7: RETIREMENT, POP and the resets write the ring, each in its way. -/
theorem ringChangesOnlyByRetirementPopAndReset : Obligations.RingChangesOnlyByRetirementPopAndReset := by
  unfold Obligations.RingChangesOnlyByRetirementPopAndReset
  intro c s t h
  cases c with
  | retirement x =>
    cases h
    rcases happen_cases s (retirement x s) with hsame | ⟨u, -, hu, hsame⟩
    · exact .inl (congrArg State.ring hsame)
    · obtain ⟨e, hroom, hring, hstamp⟩ := ring_retirement hu
      rw [hsame]
      exact .inr (.inl ⟨x, e, rfl, hroom, hring, hstamp⟩)
  | pop arg => exact (ring_of_pop h).imp_right fun ⟨e, he⟩ => .inr (.inl ⟨arg, e, rfl, he⟩)
  | softReset arg =>
    cases h
    exact (ring_of_command ring_softReset).imp_right fun h => .inr (.inr ⟨h, .inl ⟨arg, rfl⟩⟩)
  | reload arg =>
    cases h
    exact (ring_of_command fun _ => rfl).imp_right fun h => .inr (.inr ⟨h, .inr (.inl ⟨arg, rfl⟩)⟩)
  | powerOnReset cfgen cfgadr fsel =>
    cases h
    exact .inr (.inr (.inr ⟨by cases cfgen <;> rfl, .inr (.inr ⟨cfgen, cfgadr, fsel, rfl⟩)⟩))
  | _ => exact .inl (ring_of_plain h rfl)

/-! ### The page bytes (O8, O17) -/

theorem mem_of_plain {c : Instr} {s t : State} (h : exec c s = .next t) (hc : (plainAfter c s.plain t.plain).mem = s.mem) :
    t.mem = s.mem := (congrArg State.mem (exec_plain h) : t.plain.mem = _).trans hc

/-- A host write of a page byte changes none, or the one at the pointer of a page of the host. -/
theorem mem_pageDataWrite {w : Word} {s t : State} (h : exec (.pageDataWrite w) s = .next t) :
    t.mem = s.mem ∨ (lent s (ptrPageIdx s) = false ∧
      t.mem = s.mem.write (pageAddr (ptrPageIdx s) s.ptrOffset.toNat) (loByte w)) := by
  cases h
  unfold happen
  split
  · exact .inl rfl
  · rw [Option.getD_some]
    split
    · exact .inl rfl
    · next hfree => exact .inr ⟨Bool.eq_false_iff.2 hfree, rfl⟩

/-- An item that the wires brought on has the form and the read count it had. -/
theorem Item.bringTo_form {ready : Item → Bool} {now : Tick} {it it' : Item} (h : it.bringTo ready now = some it') :
    it'.form = it.form ∧ it'.readCount = it.readCount := by
  refine (Item.bringTo_keeps (P := fun i => i.form = it.form ∧ i.readCount = it.readCount) ?_ h ⟨rfl, rfl⟩).1
  intro i i' w hw hi
  rcases Item.wire_cases hw with ⟨-, -, -, rfl⟩ | ⟨-, -, -, -, ⟨-, rfl⟩ | ⟨-, rfl⟩⟩ | ⟨-, -, -, -, rfl⟩ |
    ⟨-, -, -, rfl⟩ | ⟨-, rfl⟩ <;> exact hi

/-- An engine's store changes the byte at the next offset of the page of its descriptor. -/
theorem mem_pageStore {x : Seg} {byte : Byte} {s t : State} (h : pageStore x byte s = some t) :
    ∃ it p, (s.seg x).item = some it ∧ it.form.page = some p ∧ t.mem = s.mem.write (pageAddr p it.readCount) byte := by
  unfold pageStore at h
  split at h
  · next it' hit =>
    split at h
    · next p hp =>
      cases h
      obtain ⟨it, hitem, hbring⟩ := Option.bind_eq_some_iff.1 hit
      obtain ⟨hform, hcount⟩ := Item.bringTo_form hbring
      refine ⟨it, p, hitem, hform ▸ hp, ?_⟩
      rw [State.updSeg_mem, hcount]
    · cases h
  · cases h

/-- The page of a form is that of a descriptor. -/
theorem Form.page_eq_some {f : Form} {p : Fin 32} (h : f.page = some p) :
    ∃ kind present index w r, f = .descriptor kind present index w r (some p) := by
  cases f with
  | descriptor kind present index w r page => exact ⟨kind, present, index, w, r, congrArg _ h⟩
  | _ => cases h

/-- Settles O8: a host write, an engine's store and the power-on reset write the page bytes, each at its address. -/
theorem pageBytesChangeOnlyByTheirWriters : Obligations.PageBytesChangeOnlyByTheirWriters := by
  unfold Obligations.PageBytesChangeOnlyByTheirWriters
  intro c s t a hwf h hne
  cases c with
  | pageDataWrite w =>
    rcases mem_pageDataWrite h with hm | ⟨hfree, hm⟩
    · exact absurd (by rw [hm]) hne
    · rw [hm, Memory.read_write hwf, pageAddr_ptr] at hne ⊢
      split at hne
      · next ha => exact .inl ⟨w, rfl, Option.not_isSome_iff_eq_none.1 (Bool.eq_false_iff.1 hfree), ha, if_pos ha⟩
      · exact absurd rfl hne
  | pageStore x b =>
    cases h
    rcases happen_cases s (pageStore x b s) with hsame | ⟨u, -, hu, hsame⟩
    · exact absurd (by rw [hsame]) hne
    · obtain ⟨it, p, hitem, hpage, hm⟩ := mem_pageStore hu
      obtain ⟨kind, present, index, w, r, hform⟩ := Form.page_eq_some hpage
      rw [hsame, hm, Memory.read_write hwf] at hne ⊢
      split at hne
      · next ha => exact .inr (.inl ⟨x, b, it, kind, present, index, w, r, p, rfl, hitem, hform, ha, if_pos ha⟩)
      · exact absurd rfl hne
  | powerOnReset cfgen cfgadr fsel =>
    cases h
    exact .inr (.inr ⟨cfgen, cfgadr, fsel, rfl, by cases cfgen <;> rfl⟩)
  | _ => exact absurd (by rw [mem_of_plain h rfl]) hne

/-- Every command keeps the page bytes in canonical form: the two that write one write inside the buffer, and the
power-on reset lists none. -/
theorem exec_mem_wf {c : Instr} {s t : State} (hwf : s.mem.wf = true) (h : exec c s = .next t) : t.mem.wf = true := by
  cases c with
  | pageDataWrite w =>
    rcases mem_pageDataWrite h with hm | ⟨-, hm⟩
    · rw [hm]; exact hwf
    · rw [hm]; exact Memory.write_wf hwf (pageAddr_lt _ _)
  | pageStore x b =>
    cases h
    rcases happen_cases s (pageStore x b s) with hsame | ⟨u, -, hu, hsame⟩
    · rw [hsame]; exact hwf
    · obtain ⟨it, p, -, -, hm⟩ := mem_pageStore hu
      rw [hsame, hm]
      exact Memory.write_wf hwf (pageAddr_lt _ _)
  | powerOnReset cfgen cfgadr fsel =>
    cases h
    cases cfgen <;> rfl
  | _ => rw [mem_of_plain h rfl]; exact hwf

/-- Settles O17: a step idles, or runs a command, and every command keeps the form. -/
theorem stepKeepsMemoryForm : Obligations.StepKeepsMemoryForm := by
  unfold Obligations.StepKeepsMemoryForm
  intro s t hwf h
  unfold step at h
  split at h
  · cases h; exact hwf
  · next c rest _ => exact exec_mem_wf (s := { s with pending := rest }) hwf h

/-! ### Referenced targets (O9) -/

/-- While a reference holds a target entry, keeping what it holds keeps the configured fields. -/
theorem Target.cfg_of_kept {t t' : Target} (h : t'.kept = t.kept) (hr : 0 < t.refs) : t'.cfg = t.cfg := by
  unfold Target.kept at h
  rw [if_neg (Nat.ne_of_gt hr)] at h
  split at h
  · exact absurd (congrArg Target.refs h) (Nat.ne_of_lt hr)
  · have hcfg := congrArg Target.cfg h
    exact hcfg

theorem kept_of_plain {c : Instr} {s t : State} (h : exec c s = .next t)
    (hc : (plainAfter c s.plain t.plain).targets = vmap Target.kept s.targets) (i : Fin 32) :
    (t.target i).kept = (s.target i).kept := by
  have hv : vmap Target.kept t.targets = vmap Target.kept s.targets :=
    (congrArg State.targets (exec_plain h) : t.plain.targets = _).trans hc
  have hi := congrArg (Vector.get · i) hv
  simp only [vmap_get] at hi
  exact hi

/-- An entry stored with its configured fields kept leaves those of every entry. -/
theorem cfg_setTarget {s : State} {i : Fin 32} {t : Target} (h : t.cfg = (s.target i).cfg) (j : Fin 32) :
    ((s.setTarget i t).target j).cfg = (s.target j).cfg := by
  rw [target_setTarget]
  split
  case isTrue hj => rw [h, hj]
  case isFalse => rfl

/-- A command changes configured fields only where its effect does. -/
theorem command_cfg {code arg : Byte} {limit : Nat} {checks : State → List (Bool × ResultCode)} {effect : State → State}
    {s : State} {i : Fin 32}
    (he : ∀ w, (State.target (effect { s with cmd := w }) i).cfg = (s.target i).cfg) :
    ((command code arg limit checks effect s).target i).cfg = (s.target i).cfg := by
  rcases command_cases code arg limit checks effect s with ⟨-, h⟩ | ⟨r, -, h⟩ | ⟨-, -, -, -, h⟩
  · rw [h]
  · rw [h]; rfl
  · rw [h]; exact he _

theorem submit_cfg (s : State) (i : Fin 32) : ((submit s).target i).cfg = (s.target i).cfg := by
  rw [submit_eq]
  refine (cfg_setTarget ?_ i).trans ?_
  · rw [State.target_setSeg]; rfl
  · rw [State.target_setSeg]

theorem pollEnable_cfg (j : Fin 24) (s : State) (i : Fin 32) : ((pollEnable j s).target i).cfg = (s.target i).cfg := by
  unfold pollEnable
  dsimp only
  split
  · rfl
  · exact cfg_setTarget (t := { s.target _ with refs := (s.target _).refs + 1 }) rfl i

theorem pollDisable_cfg (j : Fin 24) (s : State) (i : Fin 32) : ((pollDisable j s).target i).cfg = (s.target i).cfg := by
  unfold pollDisable
  dsimp only
  split
  · exact cfg_setTarget (t := { s.target _ with refs := (s.target _).refs - 1 }) rfl i
  · rfl

theorem softReset_cfg (s : State) (i : Fin 32) : ((softReset s).target i).cfg = (s.target i).cfg := by
  rw [softReset, target_lookAtLine, target_lookAtLine]
  have h : (clearWork s).target i = _ := vfill_get _ i
  rw [h]
  rfl

theorem retirement_cfg {x : Seg} {s t : State} (h : retirement x s = some t) (i : Fin 32) :
    (t.target i).cfg = (s.target i).cfg := by
  obtain ⟨d, rest, c, -, -, -, rfl⟩ := retirement_cases h
  refine (cfg_setTarget ?_ i).trans ?_
  · rw [State.target_setSeg]; rfl
  · rw [State.target_setSeg]

/-- A count above zero comes of a held descriptor or an enabled poll entry, and each finds its entry non-VACANT. -/
theorem nonvacant_of_refs {s : State} (hr : RefLaw s) (hroute : RouteLaw s) {i : Fin 32} (hi : 0 < (s.target i).refs) :
    (s.target i).state ≠ .vacant := by
  obtain ⟨hqueue, hpoll, -, -⟩ := hroute
  have of_queue : ∀ x, 0 < queueRefs (s.seg x).queue i → (s.target i).state ≠ .vacant := fun x hx => by
    obtain ⟨d, hd, hdi⟩ := List.countP_pos_iff.1 hx
    rw [← of_decide_eq_true hdi]
    exact (hqueue x d hd).1
  have of_poll : 0 < pollRefs s.polls i → (s.target i).state ≠ .vacant := fun hx => by
    obtain ⟨p, hp, hpi⟩ := List.countP_pos_iff.1 hx
    obtain ⟨hon, htgt⟩ := Bool.and_eq_true_iff.1 hpi
    obtain ⟨n, hn, rfl⟩ := List.mem_iff_getElem.1 hp
    have hj := hpoll ⟨n, by simpa using hn⟩
    rw [← of_decide_eq_true htgt]
    exact hj hon
  have hsum := hr i
  rcases Nat.eq_zero_or_pos (queueRefs s.segA.queue i) with ha | ha
  · rcases Nat.eq_zero_or_pos (queueRefs s.segB.queue i) with hb | hb
    · exact of_poll (by omega)
    · exact of_queue .b hb
  · exact of_queue .a ha

/-- While a load runs nothing refers to an entry. -/
theorem refs_of_loading {s : State} (hq : LoadQuiet s) (hr : RefLaw s) (hroute : RouteLaw s)
    (hl : s.loader.state = .loading) (i : Fin 32) : (s.target i).refs = 0 := by
  obtain ⟨-, -, hoff, -⟩ := hroute
  have ha : s.segA.queue = [] := (hq hl .a).2
  have hb : s.segB.queue = [] := (hq hl .b).2
  have hpolls : pollRefs s.polls i = 0 := List.countP_eq_zero.2 fun p hp hpi => by
    obtain ⟨n, hn, rfl⟩ := List.mem_iff_getElem.1 hp
    have hn' := hoff hl ⟨n, by simpa using hn⟩
    have hon := (Bool.and_eq_true_iff.1 hpi).1
    exact absurd hon (Bool.eq_false_iff.1 hn')
  rw [hr i, ha, hb, hpolls]
  rfl

/-- A command after whose effect nothing refers to an entry changes no configured fields that references still hold. -/
theorem command_cfg_of_unreferenced {code arg : Byte} {limit : Nat} {checks : State → List (Bool × ResultCode)}
    {effect : State → State} {s : State} {i : Fin 32} (he : ∀ u, (State.target (effect u) i).refs = 0)
    (hpos : 0 < ((command code arg limit checks effect s).target i).refs) :
    ((command code arg limit checks effect s).target i).cfg = (s.target i).cfg := by
  rcases command_cases code arg limit checks effect s with ⟨-, h⟩ | ⟨r, -, h⟩ | ⟨-, -, -, -, h⟩
  · rw [h]
  · rw [h]; rfl
  · rw [h] at hpos
    exact absurd (he _) (Nat.ne_of_gt hpos)

theorem reload_refs (s : State) (i : Fin 32) : ((reload s).target i).refs = 0 := by
  have h : (reload s).target i = (Vector.replicate 32 Target.empty).get i := rfl
  rw [h, Vector.get_replicate]
  rfl

theorem powerOnReset_refs (cfgen : Bool) (cfgadr fsel : BitVec 2) (s : State) (i : Fin 32) :
    ((powerOnReset cfgen cfgadr fsel s).target i).refs = 0 := by
  rw [State.target, powerOnReset_targets, Vector.get_replicate]
  rfl

/-- Settles O9: what refers to an entry finds it non-VACANT; a command that writes configured fields finds no reference, or
leaves none. -/
theorem referencedTargetKeepsItsPlace : Obligations.ReferencedTargetKeepsItsPlace := by
  unfold Obligations.ReferencedTargetKeepsItsPlace
  refine fun s hq hr hroute => ⟨fun i => nonvacant_of_refs hr hroute, fun c t h i hs ht => ?_⟩
  cases c with
  | submit arg => cases h; exact command_cfg fun w => submit_cfg _ i
  | pollEnable arg => cases h; exact command_cfg fun w => pollEnable_cfg _ _ i
  | pollDisable arg => cases h; exact command_cfg fun w => pollDisable_cfg _ _ i
  | softReset arg => cases h; exact command_cfg fun w => softReset_cfg _ i
  | reload arg => cases h; exact command_cfg_of_unreferenced (fun u => reload_refs u i) ht
  | powerOnReset cfgen cfgadr fsel => cases h; exact absurd (powerOnReset_refs ..) (Nat.ne_of_gt ht)
  | retirement x =>
    cases h
    rcases happen_cases s (retirement x s) with hsame | ⟨u, -, hu, hsame⟩
    · rw [hsame]
    · rw [hsame]; exact retirement_cfg hu i
  | loaderReadReport =>
    cases h
    rcases happen_cases s (loaderReadReport s) with hsame | ⟨u, -, hu, -⟩
    · rw [hsame]
    · obtain ⟨r, bytes, l, -, hl, -⟩ := loaderReadReport_cases hu
      exact absurd (refs_of_loading hq hr hroute hl i) (Nat.ne_of_gt hs)
  | _ => exact Target.cfg_of_kept (kept_of_plain h rfl i) hs

end Sys2Proof.Machine
end

section
/-! SUPPORT. The command port over all CMD words (12.2): which row a word spells, how it is answered, and what a refusal
leaves; and the step that takes the front command. -/

namespace Sys2Proof.Machine

/-! ### A step (O1) -/

theorem step_cons {s : State} {c : Instr} {rest : List Instr} (h : s.pending = c :: rest) :
    step s = exec c { s with pending := rest } := by
  unfold step
  rw [h]

theorem step_nil {s : State} (h : s.pending = []) : step s = .next s := by
  unfold step
  rw [h]

/-- Settles O1: the step by the two shapes of the queue. -/
theorem stepRunsFrontCommand : Obligations.StepRunsFrontCommand := by
  unfold Obligations.StepRunsFrontCommand
  exact ⟨fun c rest s h => step_cons h, fun s h => step_nil h⟩

/-! ### The words of the command rows (O3) -/

@[simp] theorem codeOf_append (code arg : Byte) : codeOf (code ++ arg) = code := BitVec.extractLsb'_append_eq_left

@[simp] theorem argOf_append (code arg : Byte) : argOf (code ++ arg) = arg := BitVec.setWidth_append_eq_right

theorem codeOf_append_argOf (w : Word) : codeOf w ++ argOf w = w := BitVec.extractLsb'_append_extractLsb'

/-- A word whose code has a number is that code over the word's argument. -/
theorem append_argOf_of_code {w : Word} {code : Byte} {n : Nat} (h : (codeOf w).toNat = n) (hn : code.toNat = n) :
    code ++ argOf w = w := by
  rw [← BitVec.eq_of_toNat_eq (h.trans hn.symm), codeOf_append_argOf]

/-- The codes of Table 12-2, number by number. -/
theorem namesCommand_iff_mem (code : Byte) : namesCommand code = true ↔
    code.toNat ∈ [1, 2, 3, 4, 5, 6, 7, 8, 9, 10, 16, 17, 18, 19, 20, 32, 33, 34, 35, 48, 49] := by
  simp only [namesCommand, commandCodes, List.contains_iff_mem, List.mem_cons, List.not_mem_nil, or_false,
    ← BitVec.toNat_inj, BitVec.ofNat_eq_ofNat, BitVec.reduceToNat]

/-- The codes of Table 12-2, in their four ranges. -/
theorem namesCommand_iff (code : Byte) : namesCommand code = true ↔
    (1 ≤ code.toNat ∧ code.toNat ≤ 0x0A) ∨ (0x10 ≤ code.toNat ∧ code.toNat ≤ 0x14) ∨
      (0x20 ≤ code.toNat ∧ code.toNat ≤ 0x23) ∨ code.toNat = 0x30 ∨ code.toNat = 0x31 := by
  simp only [namesCommand_iff_mem, List.mem_cons, List.not_mem_nil, or_false]
  omega

/-- What a word spells is a command of its row, and its word is that word. -/
theorem commandOf_spells (w : Word) : (commandOf w).wf = true ∧ (commandOf w).cmdWord = some w := by
  unfold commandOf
  split
  case h_22 =>
    refine ⟨?_, rfl⟩
    simp only [Instr.wf, Bool.not_eq_true', Bool.eq_false_iff, ne_eq, namesCommand_iff_mem, List.mem_cons,
      List.not_mem_nil, or_false, not_or]
    exact ⟨‹_›, ‹_›, ‹_›, ‹_›, ‹_›, ‹_›, ‹_›, ‹_›, ‹_›, ‹_›, ‹_›, ‹_›, ‹_›, ‹_›, ‹_›, ‹_›, ‹_›, ‹_›, ‹_›, ‹_›, ‹_›⟩
  all_goals
    next h => exact ⟨rfl, congrArg some (append_argOf_of_code h rfl)⟩

/-- A word whose code names no command spells BAD_COMMAND. -/
theorem commandOf_of_unnamed {w : Word} (h : namesCommand (codeOf w) = false) : commandOf w = .badCommand w := by
  have hmem := mt (namesCommand_iff_mem (codeOf w)).2 (Bool.eq_false_iff.1 h)
  unfold commandOf
  split
  case h_22 => rfl
  all_goals
    next hn =>
      rw [hn] at hmem
      exact absurd (by decide) hmem

/-- A row whose word is `w` is what `w` spells. -/
theorem commandOf_of_cmdWord {c : Instr} {w : Word} (hc : c.wf = true) (hw : c.cmdWord = some w) : commandOf w = c := by
  cases c with
  | badCommand v =>
    cases hw
    exact commandOf_of_unnamed (by simpa [Instr.wf] using hc)
  | abort arg seen =>
    cases seen with
    | nil =>
      cases hw
      simp only [commandOf, codeOf_append, argOf_append]
      rfl
    | cons h rest => cases hw
  | submit arg | pop arg | pause arg | resume arg | segEnable arg | segDisable arg | segWrite arg | segRead arg | recover arg
  | tgtWrite arg | tgtRead arg | tgtClear arg | tgtRelease arg | ackAlert arg | pollWrite arg | pollRead arg | pollEnable arg
  | pollDisable arg | softReset arg | reload arg =>
    cases hw
    simp only [commandOf, codeOf_append, argOf_append]
    rfl
  | _ => cases hw

/-- A command given in front of an empty or waiting queue runs in the next step. -/
theorem step_withPending (s : State) (c : Instr) : step { s with pending := c :: s.pending } = exec c s := step_cons rfl

/-- Settles O3: the words by their code and argument, and the two ways in by the queue they leave. -/
theorem commandWordsRoundTrip : Obligations.CommandWordsRoundTrip := by
  unfold Obligations.CommandWordsRoundTrip
  have hdecode : ∀ w : Word, decodeTableWord 16 w.toNat = some (commandOf w) := fun w => by
    rw [decodeTableWord, if_pos rfl, BitVec.ofNat_toNat, BitVec.setWidth_eq]
  refine ⟨fun w => ?_, fun c w hc hw => commandOf_of_cmdWord hc hw, fun w s => ⟨?_, fun hp => ?_⟩⟩
  · obtain ⟨hwf, hword⟩ := commandOf_spells w
    exact ⟨hwf, hword, rfl, hdecode w⟩
  · rw [State.withFetchWord, hdecode w]
    exact step_withPending s _
  · have hs : s.hostWrites 0x02 w = { s with pending := commandOf w :: s.pending } := by
      rw [State.hostWrites, hp]
      rfl
    rw [hs]
    exact step_withPending s _

/-! ### The effects of commands leave CMD (O5) -/

theorem endSweep_cmd (x : Seg) (s : State) : (endSweep x s).cmd = s.cmd := by
  obtain ⟨r, l, h⟩ := endSweep_shape x s
  rw [h]
  exact State.setSeg_cmd ..

theorem endSweeps_cmd (s : State) : (endSweeps s).cmd = s.cmd := by rw [endSweeps, endSweep_cmd, endSweep_cmd]

theorem submit_cmd (s : State) : (submit s).cmd = s.cmd := by
  rw [submit_eq]
  exact State.setSeg_cmd ..

theorem closeItem_cmd (s : State) (x : Seg) (it : Item) (o : TxOutcome) : (closeItem s x it o).cmd = s.cmd := by
  unfold closeItem
  split
  · exact State.updSeg_cmd ..
  · exact State.updSeg_cmd ..

theorem abort_cmd (x : Seg) (s : State) : (abort x s).cmd = s.cmd := by
  rw [abort, cutItem]
  split
  · split_ifs
    · rw [closeItem_cmd, State.updSeg_cmd]
    · rw [State.updSeg_cmd, State.updSeg_cmd]
    · exact State.updSeg_cmd ..
  · exact State.updSeg_cmd ..

theorem segEnable_cmd (x : Seg) (s : State) : (segEnable x s).cmd = s.cmd := by
  unfold segEnable
  split
  · rw [lookAtLine_cmd]
    exact State.updSeg_cmd ..
  · rfl

theorem segDisable_cmd (x : Seg) (s : State) : (segDisable x s).cmd = s.cmd := by
  unfold segDisable
  split
  · rfl
  · exact State.updSeg_cmd ..

theorem segWrite_cmd (x : Seg) (s : State) : (segWrite x s).cmd = s.cmd := by
  unfold segWrite
  split
  · dsimp only
    split
    · exact State.updSeg_cmd ..
    · rw [lookAtLine_cmd, State.updSeg_cmd]
  · rfl

theorem recover_cmd (x : Seg) (s : State) : (recover x s).cmd = s.cmd := by
  rw [recover_eq]
  exact State.setSeg_cmd ..

theorem tgtWrite_cmd (i : Fin 32) (s : State) : (tgtWrite i s).cmd = s.cmd := by
  unfold tgtWrite
  split
  · rw [endSweeps_cmd]; rfl
  · rfl

theorem tgtClear_cmd (i : Fin 32) (s : State) : (tgtClear i s).cmd = s.cmd := by
  unfold tgtClear
  split
  · rfl
  · rw [endSweeps_cmd]; rfl

theorem pollWrite_cmd (i : Fin 24) (s : State) : (pollWrite i s).cmd = s.cmd := by
  unfold pollWrite
  split <;> rfl

theorem pollEnable_cmd (i : Fin 24) (s : State) : (pollEnable i s).cmd = s.cmd := by
  unfold pollEnable
  dsimp only
  split <;> rfl

theorem pollDisable_cmd (i : Fin 24) (s : State) : (pollDisable i s).cmd = s.cmd := by
  unfold pollDisable
  dsimp only
  split <;> rfl

theorem softReset_cmd (s : State) : (softReset s).cmd = s.cmd := by
  rw [softReset, lookAtLine_cmd, lookAtLine_cmd]
  rfl

/-- A word given to CMD runs as the command of its code and argument, whose effect leaves CMD, or is a BAD_COMMAND. -/
theorem exec_cmdWord {c : Instr} {w : Word} (hw : c.cmdWord = some w) (s : State) :
    c = .badCommand w ∨
    ∃ code arg limit checks effect, w = code ++ arg ∧ exec c s = .next (command code arg limit checks effect s) ∧
      ∀ u, State.cmd (effect u) = u.cmd := by
  cases c with
  | badCommand v => cases hw; exact .inl rfl
  | abort arg seen =>
    cases seen with
    | nil => cases hw; exact .inr ⟨0x03, arg, 2, _, _, rfl, by rw [exec, execAbort, takeBefore_nil], abort_cmd _⟩
    | cons h rest => cases hw
  | submit arg => cases hw; exact .inr ⟨0x01, arg, 256, _, _, rfl, rfl, submit_cmd⟩
  | pop arg => cases hw; exact .inr ⟨0x02, arg, 256, _, _, rfl, rfl, fun _ => rfl⟩
  | pause arg => cases hw; exact .inr ⟨0x04, arg, 2, _, _, rfl, rfl, fun u => State.updSeg_cmd ..⟩
  | resume arg => cases hw; exact .inr ⟨0x05, arg, 2, _, _, rfl, rfl, fun u => State.updSeg_cmd ..⟩
  | segEnable arg => cases hw; exact .inr ⟨0x06, arg, 2, _, _, rfl, rfl, segEnable_cmd _⟩
  | segDisable arg => cases hw; exact .inr ⟨0x07, arg, 2, _, _, rfl, rfl, segDisable_cmd _⟩
  | segWrite arg => cases hw; exact .inr ⟨0x08, arg, 2, _, _, rfl, rfl, segWrite_cmd _⟩
  | segRead arg => cases hw; exact .inr ⟨0x09, arg, 2, _, _, rfl, rfl, fun _ => rfl⟩
  | recover arg => cases hw; exact .inr ⟨0x0A, arg, 2, _, _, rfl, rfl, recover_cmd _⟩
  | tgtWrite arg => cases hw; exact .inr ⟨0x10, arg, 32, _, _, rfl, rfl, tgtWrite_cmd _⟩
  | tgtRead arg => cases hw; exact .inr ⟨0x11, arg, 32, _, _, rfl, rfl, fun _ => rfl⟩
  | tgtClear arg => cases hw; exact .inr ⟨0x12, arg, 32, _, _, rfl, rfl, tgtClear_cmd _⟩
  | tgtRelease arg => cases hw; exact .inr ⟨0x13, arg, 32, _, _, rfl, rfl, fun _ => rfl⟩
  | ackAlert arg => cases hw; exact .inr ⟨0x14, arg, 32, _, _, rfl, rfl, fun _ => rfl⟩
  | pollWrite arg => cases hw; exact .inr ⟨0x20, arg, 24, _, _, rfl, rfl, pollWrite_cmd _⟩
  | pollRead arg => cases hw; exact .inr ⟨0x21, arg, 24, _, _, rfl, rfl, fun _ => rfl⟩
  | pollEnable arg => cases hw; exact .inr ⟨0x22, arg, 24, _, _, rfl, rfl, pollEnable_cmd _⟩
  | pollDisable arg => cases hw; exact .inr ⟨0x23, arg, 24, _, _, rfl, rfl, pollDisable_cmd _⟩
  | softReset arg => cases hw; exact .inr ⟨0x30, arg, 256, _, _, rfl, rfl, softReset_cmd⟩
  | reload arg => cases hw; exact .inr ⟨0x31, arg, 256, _, _, rfl, rfl, fun _ => rfl⟩
  | _ => cases hw

/-- BAD_COMMAND is refused with LOADING while a load runs, and with its own code otherwise. -/
theorem exec_badCommand {w : Word} {s : State} (hw : namesCommand (codeOf w) = false) (hrst : s.rstnLow = false) :
    exec (.badCommand w) s =
      .next (s.refusal (codeOf w) (argOf w) (if s.loader.state = .loading then 0x01 else 0x02)) := by
  have hword : wordOf (codeOf w) (argOf w) = w := codeOf_append_argOf w
  have hwf : (Instr.badCommand w).wf = true := by simp [Instr.wf, hw]
  rw [exec, execBadCommand, if_pos hwf, badCommand, if_neg (Bool.eq_false_iff.1 hrst)]
  refine congrArg Host.Outcome.next ?_
  by_cases hl : s.loader.state = .loading
  · have hload : s.isLoading = true := decide_eq_true hl
    rw [if_pos hl, if_pos hload, State.refusal, hword]
    rfl
  · have hload : ¬ s.isLoading = true := fun h => hl (of_decide_eq_true h)
    rw [if_neg hl, if_neg hload, State.refusal, hword]
    rfl

/-- Settles O5: a CMD word by how its command ends. -/
theorem refusedCommandChangesOnlyThePort : Obligations.RefusedCommandChangesOnlyThePort := by
  unfold Obligations.RefusedCommandChangesOnlyThePort
  intro w s t hrst h
  obtain ⟨hwf, hword⟩ := commandOf_spells w
  rcases exec_cmdWord hword s with hbad | ⟨code, arg, limit, checks, effect, rfl, hexec, hcmd⟩
  · have hname : namesCommand (codeOf w) = false := by simpa [hbad, Instr.wf] using hwf
    rw [hbad, exec_badCommand hname hrst] at h
    cases h
    refine ⟨codeOf_append_argOf w, codeOf_append .., fun _ => ?_⟩
    rw [show State.cmdres (s.refusal (codeOf w) (argOf w) _) = codeOf w ++ _ from rfl, argOf_append]
  · rw [hexec] at h
    cases h
    rw [codeOf_append, argOf_append]
    rcases command_cases code arg limit checks effect s with ⟨hlow, -⟩ | ⟨r, -, hcase⟩ | ⟨-, -, -, -, hcase⟩
    · rw [hrst] at hlow; cases hlow
    · rw [hcase]
      refine ⟨rfl, codeOf_append .., fun _ => ?_⟩
      rw [show State.cmdres (State.refuse _ code r) = code ++ r.code from rfl, argOf_append]
      rfl
    · rw [hcase]
      refine ⟨hcmd _, codeOf_append .., fun hne => absurd ?_ hne⟩
      exact argOf_append code 0x00

/-! ### LOADING, BAD_COMMAND and BAD_ENTRY (O4) -/

/-- While a load runs every CMD word is refused with LOADING. -/
theorem exec_commandOf_loading (w : Word) {s : State} (hrst : s.rstnLow = false) (hl : s.loader.state = .loading) :
    exec (commandOf w) s = .next (s.refusal (codeOf w) (argOf w) 0x01) := by
  obtain ⟨hwf, hword⟩ := commandOf_spells w
  rcases exec_cmdWord hword s with hbad | ⟨code, arg, limit, checks, effect, rfl, hexec, -⟩
  · have hname : namesCommand (codeOf w) = false := by simpa [hbad, Instr.wf] using hwf
    rw [hbad, exec_badCommand hname hrst, if_pos hl]
  · rw [hexec, command_loading hrst hl, codeOf_append, argOf_append]
    rfl

/-- An argument out of the range of its command is answered BAD_ENTRY by a ready host. -/
theorem next_command_badEntry {code arg : Byte} {limit : Nat} {checks : State → List (Bool × ResultCode)}
    {effect : State → State} {s : State} (hs : HostReady s) (ha : limit ≤ arg.toNat) :
    (Host.Outcome.next (command code arg limit checks effect s) : Result) = .next (s.refusal code arg 0x03) := by
  obtain ⟨hrst, hload⟩ := hs
  rw [command_badEntry hrst hload ha]
  rfl

/-- An ABORT with no wires before it is a command like any other. -/
theorem exec_abort_nil (arg : Byte) (s : State) :
    exec (.abort arg []) s = .next (command 0x03 arg 2 (fun _ => []) (abort (segOf arg)) s) := by
  rw [exec, execAbort, takeBefore_nil]

/-- Settles O4: the port's own refusals, which come before a command's own checks. -/
theorem loadingAndBadWordsAreRefused : Obligations.LoadingAndBadWordsAreRefused := by
  unfold Obligations.LoadingAndBadWordsAreRefused
  refine ⟨fun w s hrst hl => exec_commandOf_loading w hrst hl, namesCommand_iff, fun s hs => ⟨fun w hw => ?bad,
    fun arg ha => ?seg, fun arg ha => ?tgt, fun arg ha => ?poll⟩⟩
  case bad =>
    obtain ⟨hrst, hload⟩ := hs
    rw [exec_badCommand hw hrst, if_neg hload]
  case seg =>
    exact ⟨(exec_abort_nil arg s).trans (next_command_badEntry hs ha), next_command_badEntry hs ha,
      next_command_badEntry hs ha, next_command_badEntry hs ha, next_command_badEntry hs ha, next_command_badEntry hs ha,
      next_command_badEntry hs ha, next_command_badEntry hs ha⟩
  case tgt =>
    exact ⟨next_command_badEntry hs ha, next_command_badEntry hs ha, next_command_badEntry hs ha,
      next_command_badEntry hs ha, next_command_badEntry hs ha⟩
  case poll =>
    exact ⟨next_command_badEntry hs ha, next_command_badEntry hs ha, next_command_badEntry hs ha,
      next_command_badEntry hs ha⟩

end Sys2Proof.Machine
end

section
/-! SUPPORT. The power-on state (1.7, 4.7, 6.4, 8.8, 10.5, Table 12-1): every law holds there, and the window reads as given. -/

namespace Sys2Proof.Machine

theorem reset_target (i : Fin 32) : State.reset.target i = Target.empty := Vector.get_replicate ..

theorem reset_poll (i : Fin 24) : State.reset.poll i = Poll.empty := Vector.get_replicate ..

theorem reset_seg (x : Seg) : State.reset.seg x = Segment.powerOn false := by cases x <;> rfl

theorem reset_shadowTarget (i : Fin 32) : State.reset.loader.shadow.targets.get i = none := Vector.get_replicate ..

theorem reset_shadowPoll (i : Fin 24) : State.reset.loader.shadow.polls.get i = none := Vector.get_replicate ..

theorem reset_holder (p : Fin 32) : State.reset.holders.get p = none := Vector.get_replicate ..

/-- Nothing refers to an entry, and every entry counts none. -/
theorem reset_refLaw : RefLaw State.reset := by
  unfold RefLaw
  decide

theorem reset_routeLaw : RouteLaw State.reset := by
  refine ⟨fun x d hd => ?_, fun i hi => ?_, fun h => (by cases h), fun i c e hc => ?_⟩
  · rw [reset_seg] at hd; cases hd
  · rw [reset_poll] at hi; cases hi
  · rw [reset_shadowPoll] at hc; cases hc

theorem reset_pageLaw : PageLaw State.reset := by
  refine ⟨List.nodup_nil, fun p => ?_, fun p h hp => ?_⟩
  · rw [lent, reset_holder]
    exact ⟨fun h => (by cases h), fun h => (by cases h)⟩
  · rw [reset_holder] at hp; cases hp

theorem reset_slotLaw : SlotLaw State.reset := fun x => by
  rw [reset_seg]
  exact ⟨List.nodup_nil, fun d hd => (by cases hd)⟩

theorem reset_placesDistinct : PlacesDistinct State.reset := fun i j _ hi => by
  rw [reset_target] at hi
  exact absurd rfl hi

theorem reset_shadowPlacesDistinct : ShadowPlacesDistinct State.reset := fun i j c d _ hc => by
  rw [reset_shadowTarget] at hc
  cases hc

theorem reset_quarantineLaw : QuarantineLaw State.reset := fun i => by
  rw [reset_target]
  exact ⟨fun h => (by cases h), fun _ h => absurd rfl h⟩

theorem reset_alarmLaw : AlarmLaw State.reset := fun i => by
  rw [reset_poll]
  exact ⟨fun h => (by rcases h with h | h <;> cases h), fun _ => rfl⟩

theorem reset_workLaw : WorkLaw State.reset := fun x => by
  rw [SegmentWork, reset_seg]
  refine ⟨fun it h => (by cases h), fun it o h => (by cases h), fun it h => (by cases h), fun r h => (by cases h), fun _ h => ?_,
    fun _ h => ?_⟩
  · rcases h with h | h <;> cases h
  · rcases h with h | h <;> cases h

theorem reset_headLaw : HeadLaw State.reset := fun x d hd => by
  rw [reset_seg] at hd
  cases hd

theorem reset_activeLaw : ActiveLaw State.reset := fun x => by
  rw [reset_seg]
  exact ⟨fun h => (by cases h), fun it h => (by cases h), fun _ h => (by cases h)⟩

theorem reset_rangeLaw : RangeLaw State.reset := by
  refine ⟨⟨by decide, fun c hc => (by cases hc)⟩, fun x => ?_, fun i => ?_, fun i => ?_, by decide, by decide, fun h => (by cases h)⟩
  · rw [reset_seg]
    exact ⟨by decide, by decide, by decide, fun d hd => (by cases hd), fun it h => (by cases h), fun r h => (by cases h),
      fun r h => (by cases h)⟩
  · rw [reset_target]; decide
  · rw [reset_poll]; decide

theorem reset_restLaw : RestLaw State.reset := fun x _ => by
  rw [reset_seg]
  exact ⟨rfl, rfl, rfl, rfl⟩

theorem reset_sweepLaw : SweepLaw State.reset := fun _ x => by
  rw [reset_seg]
  exact ⟨fun h => (by cases h), fun h => (by cases h)⟩

theorem reset_reservedLaw : ReservedLaw State.reset := by
  refine ⟨by decide, by decide, fun e he => (by cases he), ?_⟩
  decide

/-- Settles O18: the laws one by one over empty tables, and the window address by address. -/
theorem resetHoldsLawsAndReadsAsGiven : Obligations.ResetHoldsLawsAndReadsAsGiven := by
  unfold Obligations.ResetHoldsLawsAndReadsAsGiven
  refine ⟨⟨fun h => (by cases h), reset_refLaw, reset_routeLaw, reset_pageLaw, reset_slotLaw⟩,
    ⟨reset_placesDistinct, reset_shadowPlacesDistinct, fun h => (by cases h)⟩,
    ⟨reset_quarantineLaw, reset_alarmLaw, reset_workLaw, reset_headLaw⟩,
    ⟨reset_activeLaw, fun x _ => (by rw [reset_seg]; rfl), reset_rangeLaw, by decide, fun e he => (by cases he)⟩,
    ⟨reset_restLaw, reset_sweepLaw, reset_reservedLaw, rfl⟩, rfl, ?_⟩
  decide

end Sys2Proof.Machine
end

section
/-! SUPPORT. Deadlines, the images TGT_READ and POLL_READ copy, and the reports the Target Table takes (R5 to R8, R11, R16,
R37, R144). -/

namespace Sys2Proof.Machine

/-! ### Deadlines (O22) -/

theorem deadlineExpiry_eq {x : Seg} {pos : Nat} {s : State} {d : Descriptor} (h : (s.seg x).queue[pos]? = some d) :
    deadlineExpiry x pos s =
      if d.expires s.tick then
        some (s.setSeg x { s.seg x with queue := (s.seg x).queue.set pos { d with state := .expired } })
      else none := by
  unfold deadlineExpiry
  rw [h]
  rfl

/-- When a descriptor expires, in the statement's words. -/
theorem Descriptor.expires_iff (d : Descriptor) (now : Tick) : d.expires now = true ↔
    d.state = .queued ∧ d.deadline ≠ 0 ∧ d.deadline.toNat ≤ (now - d.acceptTick).toNat := by
  simp only [Descriptor.expires, Bool.and_eq_true, decide_eq_true_eq, and_assoc]
  rfl

/-- Settles O22: the expiry by its test. -/
theorem deadlineExpiresQueuedDescriptor : Obligations.DeadlineExpiresQueuedDescriptor := by
  unfold Obligations.DeadlineExpiresQueuedDescriptor
  refine fun x pos s d hrst hd => ⟨fun he => ?_, fun hn => ?_⟩
  · rw [exec, execDeadlineExpiry, deadlineExpiry_eq hd, if_pos ((d.expires_iff s.tick).2 he), happen_some hrst]
  · have he : ¬ d.expires s.tick = true := fun he => by
      obtain ⟨hq, hd0, hle⟩ := (d.expires_iff s.tick).1 he
      rcases hn with h | h | h
      · exact h hq
      · exact hd0 h
      · exact absurd hle (Nat.not_le.2 h)
    rw [exec, execDeadlineExpiry, deadlineExpiry_eq hd, if_neg he, happen_none]

/-! ### TGT_READ and POLL_READ (O31) -/

/-- Settles O31: the image each command copies. -/
theorem tgtReadAndPollReadCopyTheEntry : Obligations.TgtReadAndPollReadCopyTheEntry := by
  unfold Obligations.TgtReadAndPollReadCopyTheEntry
  refine fun arg s hs => ⟨fun ha => ⟨fun hv => ?_, fun _ => ?_⟩, fun ha => ?_⟩
  · refine congrArg _ (command_eq_done hs ha firstFailing_nil ?_)
    show { s with cmd := wordOf 0x11 arg, ts := targetImage (s.target (idx32 arg.toNat)) } = _
    rw [targetImage, if_pos hv]
  · exact congrArg _ (command_eq_done hs ha firstFailing_nil rfl)
  · exact congrArg _ (command_eq_done hs ha firstFailing_nil rfl)

/-! ### Presence reports (O33) -/

/-- A target entry stored as it stands changes nothing. -/
theorem setTarget_self (s : State) (i : Fin 32) : s.setTarget i (s.target i) = s := by
  rw [State.setTarget, State.target, vset_self]

theorem Target.seen_of_vacant {t : Target} (h : t.state = .vacant) (now : Tick) : t.seen now = t := by
  simp [Target.seen, h]

theorem Target.seen_of_nonvacant {t : Target} (h : t.state ≠ .vacant) (now : Tick) :
    t.seen now = { t with
      state := if t.state = .unknown ∨ t.state = .missing then .present else t.state, lastSeen := stampOf now } := by
  cases hs : t.state with
  | vacant => exact absurd hs h
  | _ => simp [Target.seen, hs]

/-- The front report of a segment where it is a presence report. -/
theorem presenceReport_eq {x : Seg} {s : State} {i : Fin 32} {own dropped : Bool} {rest : List TableReport}
    (h : (s.seg x).tableReports = { target := i, ofDescriptor := own, dropped := dropped, body := .presence } :: rest) :
    presenceReport x s = some (
      let s1 := s.setSeg x { s.seg x with tableReports := rest }
      if dropped then s1 else s1.setTarget i ((s.target i).seen s.tick)) := by
  unfold presenceReport
  rw [h]
  rfl

/-- Settles O33: the entry a presence report marks, by whether it is dropped and whether the entry is VACANT. -/
theorem presenceReportMarksTheTarget : Obligations.PresenceReportMarksTheTarget := by
  unfold Obligations.PresenceReportMarksTheTarget
  intro x s i own dropped rest hrst h t s1
  rw [exec, execPresenceReport, presenceReport_eq h, happen_some hrst]
  refine congrArg _ ?_
  cases dropped with
  | true => rfl
  | false =>
    have hsame : s1.target i = t := State.target_setSeg ..
    by_cases hv : t.state = .vacant
    · rw [if_pos (Or.inr hv), if_neg Bool.false_ne_true, Target.seen_of_vacant hv, ← hsame]
      exact setTarget_self s1 i
    · have hlive : ¬ (false = true ∨ t.state = .vacant) := fun h => h.elim Bool.false_ne_true hv
      rw [if_neg hlive, if_neg Bool.false_ne_true, Target.seen_of_nonvacant hv, State.setTarget, State.setSeg_targets]
      rfl

/-! ### Outcome reports (O34) -/

/-- The outcomes that raise the failure count, in the statements' words. -/
theorem TxOutcome.isFailure_iff (o : TxOutcome) : o.isFailure = true ↔
    o = .nackAddress ∨ o = .nackData ∨ o = .stretchTimeout ∨ o = .blockLengthBad := by
  cases o <;> decide

theorem TgtState.afterOutcome_eq (st : TgtState) (o : TxOutcome) :
    st.afterOutcome o = if o = .nackAddress ∧ (st = .unknown ∨ st = .present) then .missing else st := by
  cases o with
  | nackAddress => cases st <;> rfl
  | _ => simp [TgtState.afterOutcome]

theorem Target.outcome_of_failure {o : TxOutcome} (h : o.isFailure = true) (t : Target) :
    t.outcome o = { t with failures := min (t.failures + 1) 15, state := t.state.afterOutcome o } := by
  have hok : o ≠ .ok := fun e => by rw [e] at h; cases h
  rw [Target.outcome, if_neg hok, if_pos ((o.isFailure_iff).1 h), TgtState.afterOutcome_eq]

theorem Target.outcome_of_ok (t : Target) : t.outcome .ok = { t with failures := 0 } := by simp [Target.outcome]

theorem Target.outcome_of_other {o : TxOutcome} (hf : o.isFailure = false) (hok : o ≠ .ok) (t : Target) : t.outcome o = t := by
  have hnone : ¬ (o = .nackAddress ∨ o = .nackData ∨ o = .stretchTimeout ∨ o = .blockLengthBad) := fun h =>
    Bool.eq_false_iff.1 hf ((o.isFailure_iff).2 h)
  have haddr : o ≠ .nackAddress := fun h => hnone (.inl h)
  rw [Target.outcome, if_neg hok, if_neg hnone, if_neg fun h => haddr h.1]

/-- What a final outcome makes of an entry that is neither VACANT nor QUARANTINED: Table 1-8, and R7 at the threshold. -/
theorem Target.judged_live {t : Target} (hv : t.state ≠ .vacant) (hq : t.state ≠ .quarantined) (o : TxOutcome) :
    t.judged o =
      if t.cfg.threshold ≠ 0 ∧ (t.outcome o).failures = t.cfg.threshold.toNat ∧ o.isFailure = true then
        ({ t.outcome o with state := .quarantined }, true)
      else (t.outcome o, false) := by
  unfold Target.judged
  split
  · next h => exact absurd h hv
  · next h => exact absurd h hq
  · cases hf : o.isFailure with
    | true =>
      simp only [if_true, Target.outcome_of_failure hf, Bool.and_eq_true, decide_eq_true_eq, and_true]
    | false =>
      simp only [Bool.false_eq_true, and_false, if_false]
      split
      · next hok => rw [hok, Target.outcome_of_ok]
      · next hok => rw [Target.outcome_of_other hf hok]

/-- A final outcome on an entry, in the statements' words. -/
theorem applyOutcome_eq_withOutcome (s : State) (i : Fin 32) (o : TxOutcome) : applyOutcome s i o = s.withOutcome i o := by
  unfold applyOutcome State.withOutcome
  dsimp only
  by_cases h : (s.target i).state = .vacant ∨ (s.target i).state = .quarantined
  · have hj : (s.target i).judged o = (s.target i, false) := by
      unfold Target.judged
      rcases h with h | h <;> rw [h]
    rw [if_pos h, hj, if_neg Bool.false_ne_true, setTarget_self]
  · obtain ⟨hv, hq⟩ := not_or.1 h
    have hj := Target.judged_live hv hq o
    rw [if_neg h]
    by_cases hc : (s.target i).cfg.threshold ≠ 0 ∧
        ((s.target i).outcome o).failures = (s.target i).cfg.threshold.toNat ∧ o.isFailure = true
    · rw [if_pos hc] at hj
      rw [TxOutcome.isFailure_iff] at hc
      rw [hj, if_pos hc]
      rfl
    · rw [if_neg hc] at hj
      rw [TxOutcome.isFailure_iff] at hc
      rw [hj, if_neg hc]
      rfl

/-- The front report of a segment where it is the outcome of a descriptor or a poll read. -/
theorem outcomeReport_outcome {x : Seg} {s : State} {i : Fin 32} {own dropped : Bool} {o : TxOutcome}
    {rest : List TableReport}
    (h : (s.seg x).tableReports = { target := i, ofDescriptor := own, dropped := dropped, body := .outcome o } :: rest) :
    outcomeReport x s = some (
      let s1 := s.setSeg x { s.seg x with tableReports := rest }
      if dropped then s1 else endSweeps (s1.withOutcome i o)) := by
  unfold outcomeReport
  rw [h]
  simp only [applyOutcome_eq_withOutcome]
  rfl

/-- A segment's front report taken, and its resolver told a result where it still waits for one. -/
def State.told (s : State) (x : Seg) (rest : List TableReport) (awaited : Bool) (r : AlertResult) : State :=
  s.setSeg x { s.seg x with
    tableReports := rest
    alertResults := if awaited = true then (s.seg x).alertResults ++ [r] else (s.seg x).alertResults }

/-- Telling a resolver after the report is taken and tables and flags are changed. -/
theorem tellResolver_told (s : State) (x : Seg) (rest : List TableReport) (targets : Vector Target 32) (latched : Word)
    (awaited : Bool) (r : AlertResult) :
    tellResolver { s.setSeg x { s.seg x with tableReports := rest } with targets := targets, latched := latched } x awaited r =
      { s.told x rest awaited r with targets := targets, latched := latched } := by
  cases awaited <;> cases x <;> rfl

/-- The front report of a segment where it is the outcome of an alert read that no edit overtook: what the value leaves of
the entry, the flag it sets, and what the resolver is told. -/
theorem outcomeReport_alert {x : Seg} {s : State} {i : Fin 32} {own : Bool} {o : TxOutcome} {v : Byte} {awaited : Bool}
    {rest : List TableReport}
    (h : (s.seg x).tableReports =
      { target := i, ofDescriptor := own, dropped := false, body := .alertOutcome o v awaited } :: rest) :
    outcomeReport x s = some (endSweeps (State.withOutcome
      { s.told x rest awaited ((s.target i).alertRead o v).2 with
        targets := vset s.targets i ((s.target i).alertRead o v).1
        latched := if ((s.target i).alertRead o v).2 = .newFlag then s.latched ||| 0x0040 else s.latched } i o)) := by
  have hsame : (s.setSeg x { s.seg x with tableReports := rest }).target i = s.target i := State.target_setSeg ..
  have hset : ∀ t r, (if r = AlertResult.newFlag then
        ((s.setSeg x { s.seg x with tableReports := rest }).setTarget i t).raise .alert
      else (s.setSeg x { s.seg x with tableReports := rest }).setTarget i t) =
      { s.setSeg x { s.seg x with tableReports := rest } with
        targets := vset s.targets i t, latched := if r = .newFlag then s.latched ||| 0x0040 else s.latched } := fun t r => by
    split <;> cases x <;> rfl
  unfold outcomeReport
  rw [h]
  dsimp only
  rw [if_neg Bool.false_ne_true, State.updSeg_eq, hsame, tellResolver_applyOutcome, applyOutcome_eq_withOutcome, hset,
    tellResolver_told]

/-- A report that an edit overtook tells the resolver that nothing was found. -/
theorem outcomeReport_alert_dropped {x : Seg} {s : State} {i : Fin 32} {own : Bool} {o : TxOutcome} {v : Byte} {awaited : Bool}
    {rest : List TableReport}
    (h : (s.seg x).tableReports =
      { target := i, ofDescriptor := own, dropped := true, body := .alertOutcome o v awaited } :: rest) :
    outcomeReport x s = some (s.told x rest awaited .nothing) := by
  unfold outcomeReport
  rw [h]
  refine congrArg some ?_
  cases awaited <;> cases x <;> rfl

theorem Target.alertRead_of_masked {t : Target} {o : TxOutcome} {v : Byte} (ho : o = .ok) (hv : v &&& t.cfg.alertMask ≠ 0) :
    t.alertRead o v =
      ({ t with alertValue := v, alertValid := true, alerting := true }, if t.alerting then .masked else .newFlag) := by
  rw [Target.alertRead, if_pos (by simpa [ho] using hv)]

theorem Target.alertRead_of_unmasked {t : Target} {o : TxOutcome} {v : Byte} (h : o ≠ .ok ∨ v &&& t.cfg.alertMask = 0) :
    t.alertRead o v = (t, .nothing) := by
  have hn : ¬ (o = .ok ∧ v &&& t.cfg.alertMask ≠ 0) := fun ⟨ho, hv⟩ => h.elim (· ho) hv
  rw [Target.alertRead, if_neg (by simpa using hn)]

/-- Settles O34: an outcome report by whether an edit overtook it, and the value of an alert read by its masked bits. -/
theorem outcomeReportsAreJudged : Obligations.OutcomeReportsAreJudged := by
  unfold Obligations.OutcomeReportsAreJudged
  refine ⟨fun x s i own dropped o rest hrst h => ?_, fun x s i own dropped o v awaited rest hrst h => ⟨?_, fun hd => ⟨fun ho hv => ⟨?_, ?_⟩, ?_⟩⟩⟩
  · rw [exec, execOutcomeReport, outcomeReport_outcome h, happen_some hrst]
  · rintro rfl
    rw [exec, execOutcomeReport, outcomeReport_alert_dropped h, happen_some hrst]
    rfl
  · intro ha
    subst hd
    rw [exec, execOutcomeReport, outcomeReport_alert h, happen_some hrst, Target.alertRead_of_masked ho hv, ha, ho]
    rfl
  · intro ha
    subst hd
    rw [exec, execOutcomeReport, outcomeReport_alert h, happen_some hrst, Target.alertRead_of_masked ho hv, ha, ho]
    cases x <;> rfl
  · intro hn
    subst hd
    rw [exec, execOutcomeReport, outcomeReport_alert h, happen_some hrst, Target.alertRead_of_unmasked hn]
    refine congrArg (fun u => Host.Outcome.next (endSweeps (State.withOutcome u i o))) ?_
    have hself : vset s.targets i (s.target i) = s.targets := vset_self ..
    rw [hself]
    cases x <;> rfl

end Sys2Proof.Machine
end

section
/-! SUPPORT. The configured fields of a target entry and the two commands that edit it (1.1, 1.5, 1.6, Table 12-5). -/

namespace Sys2Proof.Machine

/-! ### Staged fields (R2, R14) -/

theorem indexFits_iff (width : BitVec 2) (index : Word) :
    indexFits width index = true ↔ IndexFits width index := by
  unfold indexFits IndexFits
  by_cases h0 : width = 0
  · subst h0; simp
  · by_cases h1 : width = 1
    · subst h1; simp
    · rw [if_neg h0, if_neg h1]
      exact ⟨fun _ => ⟨fun h => absurd h h0, fun h => absurd h h1⟩, fun _ => rfl⟩

theorem speedOfBit_eq (b : Bool) : speedOfBit b = if b = true then .fast else .standard := rfl

theorem segOfBit_eq (b : Bool) : segOfBit b = if b = true then .b else .a := rfl

/-- The configured fields of a target are taken exactly where R2 calls them legal. -/
theorem targetConfig_eq_some_iff {x : Seg} {address low : Byte} {threshold : BitVec 4} {mask : Byte} {index : Word}
    {c : TargetConfig} :
    targetConfig x address low threshold mask index = some c ↔
      TargetLegal address (low.extractLsb' 6 2) (low.getLsbD 1) index mask ∧
      c = { segment := x, address := address.setWidth 7, width := low.extractLsb' 6 2
            speed := if low.getLsbD 5 = true then Speed.fast else Speed.standard, retryLimit := low.extractLsb' 2 3
            threshold := threshold, alertCapable := low.getLsbD 1, alertIndex := index, alertMask := mask } := by
  have hcapable : (!low.getLsbD 1 || (indexFits (low.extractLsb' 6 2) index && decide (mask ≠ 0))) = true ↔
      (low.getLsbD 1 = true → IndexFits (low.extractLsb' 6 2) index ∧ mask ≠ 0) := by
    rw [← indexFits_iff]
    cases low.getLsbD 1 <;> simp
  unfold targetConfig TargetLegal
  simp only [Option.ite_none_right_eq_some, Option.some.injEq, Bool.and_eq_true, decide_eq_true_eq, and_assoc]
  constructor
  · rintro ⟨hlo, hhi, hw, hc, rfl⟩
    exact ⟨hlo, hhi, hw, hcapable.1 hc, rfl⟩
  · rintro ⟨hlo, hhi, hw, hc, rfl⟩
    exact ⟨hlo, hhi, hw, hcapable.2 hc, rfl⟩

/-! ### Detaching (R19, R20) -/

theorem Item.detach_eq (it : Item) (i : Fin 32) : it.detach i =
    if it.supplier ≠ .queue ∧ it.supplier ≠ .loader ∧ it.target = some i then { it with detached := true } else it := by
  unfold Item.detach
  cases it.supplier <;> simp

theorem TableReport.detach_eq (r : TableReport) (i : Fin 32) : r.detach i =
    if r.target = i ∧ r.ofDescriptor = false then { r with dropped := true } else r := by
  simp [TableReport.detach]

theorem Segment.detach_eq (g : Segment) (i : Fin 32) : g.detach i = g.detached i := by
  simp only [Segment.detach, Segment.detached, Item.detach_eq, TableReport.detach_eq]

/-- An entry stored and detached on both segments. -/
theorem detach_setTarget (s : State) (i : Fin 32) (t : Target) :
    detach (s.setTarget i t) i =
      { s with targets := vset s.targets i t, segA := s.segA.detached i, segB := s.segB.detached i } := by
  rw [← Segment.detach_eq, ← Segment.detach_eq]
  rfl

/-! ### TGT_WRITE and TGT_CLEAR (O29) -/

theorem duplicatePlace_iff (s : State) (i : Fin 32) (x : Seg) (address : BitVec 7) :
    duplicatePlace s i (x, address) = true ↔
      ∃ j, j ≠ i ∧ (s.target j).state ≠ .vacant ∧ (s.target j).cfg.segment = x ∧ (s.target j).cfg.address = address := by
  simp [duplicatePlace, and_assoc]

theorem tgtClear_check {s : State} {i : Fin 32} (h : (s.target i).refs = 0) :
    firstFailing [(decide (0 < (s.target i).refs), .entryInUse)] = none := by simp [h]

section
variable {arg : Byte} {s : State} (hs : HostReady s) (ha : arg.toNat < 32)
include hs ha

theorem exec_tgtWrite_inUse (h : 0 < (s.target (idx32 arg.toNat)).refs) :
    exec (.tgtWrite arg) s = .next (s.refusal 0x10 arg 0x0C) :=
  congrArg _ (command_eq_refusal hs ha (r := .entryInUse) (by simp [tgtWriteChecks, h]))

theorem exec_tgtClear_inUse (h : 0 < (s.target (idx32 arg.toNat)).refs) :
    exec (.tgtClear arg) s = .next (s.refusal 0x12 arg 0x0C) :=
  congrArg _ (command_eq_refusal hs ha (r := .entryInUse) (by simp [h]))

theorem exec_tgtWrite_badField (hr : (s.target (idx32 arg.toNat)).refs = 0) (hc : stagedTarget s.ts = none) :
    exec (.tgtWrite arg) s = .next (s.refusal 0x10 arg 0x0E) :=
  congrArg _ (command_eq_refusal hs ha (r := .badField) (by simp [tgtWriteChecks, hr, hc]))

theorem exec_tgtWrite_duplicate (hr : (s.target (idx32 arg.toNat)).refs = 0) {c : TargetConfig}
    (hc : stagedTarget s.ts = some c) (hd : duplicatePlace s (idx32 arg.toNat) (c.segment, c.address) = true) :
    exec (.tgtWrite arg) s = .next (s.refusal 0x10 arg 0x0D) :=
  congrArg _ (command_eq_refusal hs ha (r := .duplicateAddress) (by
    simp [tgtWriteChecks, hr, hc, stagedPlace_eq hc, hd]))

theorem exec_tgtWrite_done (hr : (s.target (idx32 arg.toNat)).refs = 0) {c : TargetConfig}
    (hc : stagedTarget s.ts = some c) (hd : duplicatePlace s (idx32 arg.toNat) (c.segment, c.address) = false) :
    exec (.tgtWrite arg) s = .next ((endSweeps { s with
      cmd := wordOf 0x10 arg, targets := vset s.targets (idx32 arg.toNat) (.written c)
      segA := s.segA.detached (idx32 arg.toNat), segB := s.segB.detached (idx32 arg.toNat) }).done 0x10 arg) := by
  refine congrArg _ (command_eq_done_of_cmd hs ha ?checks ?effect (endSweeps_cmd _))
  case checks => simp [tgtWriteChecks, hr, hc, stagedPlace_eq hc, hd]
  case effect =>
    rw [tgtWrite, hc]
    exact congrArg endSweeps (detach_setTarget _ _ _)

theorem exec_tgtClear_vacant (hr : (s.target (idx32 arg.toNat)).refs = 0)
    (hv : (s.target (idx32 arg.toNat)).state = .vacant) : exec (.tgtClear arg) s = .next (s.done 0x12 arg) :=
  congrArg _ (command_eq_done (t := s) (effect := tgtClear (idx32 arg.toNat)) hs ha (tgtClear_check hr) (if_pos hv))

theorem exec_tgtClear_done (hr : (s.target (idx32 arg.toNat)).refs = 0)
    (hv : (s.target (idx32 arg.toNat)).state ≠ .vacant) :
    exec (.tgtClear arg) s = .next ((endSweeps { s with
      cmd := wordOf 0x12 arg, targets := vset s.targets (idx32 arg.toNat) .empty
      segA := s.segA.detached (idx32 arg.toNat), segB := s.segB.detached (idx32 arg.toNat) }).done 0x12 arg) := by
  refine congrArg _ (command_eq_done_of_cmd hs ha (tgtClear_check hr) ?effect (endSweeps_cmd _))
  case effect => exact (if_neg hv).trans (congrArg endSweeps (detach_setTarget _ _ _))

end

/-- Settles O29: the staged fields by R2, and both commands by their checks in order. -/
theorem tgtWriteAndClearEditTheEntry : Obligations.TgtWriteAndClearEditTheEntry := by
  unfold Obligations.TgtWriteAndClearEditTheEntry
  refine ⟨fun x address low threshold mask index c => targetConfig_eq_some_iff, fun ts => rfl, fun arg s hs ha =>
    ⟨fun hpos => ⟨exec_tgtWrite_inUse hs ha hpos, exec_tgtClear_inUse hs ha hpos⟩, fun hr =>
      ⟨fun hc => exec_tgtWrite_badField hs ha hr hc, fun c hc => ⟨fun hd => ?duplicate, fun hd => ?done⟩,
        fun hv => exec_tgtClear_vacant hs ha hr hv, fun hv => exec_tgtClear_done hs ha hr hv⟩⟩⟩
  case duplicate => exact exec_tgtWrite_duplicate hs ha hr hc ((duplicatePlace_iff ..).2 hd)
  case done =>
    have hfree : duplicatePlace s (idx32 arg.toNat) (c.segment, c.address) = false := by
      rw [Bool.eq_false_iff, ne_eq, duplicatePlace_iff]
      rintro ⟨j, hj, hv, hx, haddr⟩
      exact hd j hj hv hx haddr
    exact exec_tgtWrite_done hs ha hr hc hfree

end Sys2Proof.Machine
end

section
/-! SUPPORT. Where the images of target, poll and segment fields hold each field, and that the staging registers read them
back (12.3, Tables 12-5 to 12-7, 12-10; R104, R137, R140). -/

namespace Sys2Proof.Machine

/-! ### Fields of the image words -/

theorem getLsbD_ofBool_zero (b : Bool) : (BitVec.ofBool b).getLsbD 0 = b := by cases b <;> rfl

theorem getLsbD_append_ofBool {w : Nat} (x : BitVec w) (b : Bool) : (x ++ BitVec.ofBool b).getLsbD 0 = b := by
  rw [BitVec.getLsbD_append, if_pos Nat.zero_lt_one, getLsbD_ofBool_zero]

/-- The word of TS0. -/
theorem fields_ts0 (segment : Bool) (address : BitVec 7) (width : BitVec 2) (speed : Bool) (retry : BitVec 3) (capable : Bool) :
    let w := BitVec.ofBool segment ++ address ++ width ++ BitVec.ofBool speed ++ retry ++ BitVec.ofBool capable ++ 0#1
    w.getLsbD 15 = segment ∧ w.extractLsb' 8 7 = address ∧ w.extractLsb' 6 2 = width ∧ w.getLsbD 5 = speed ∧
      w.extractLsb' 2 3 = retry ∧ w.getLsbD 1 = capable := by
  intro w
  simp (disch := decide) only [w, BitVec.extractLsb'_append_eq_of_le, getLsbD_append_of_le, Nat.reduceSub,
    BitVec.extractLsb'_append_eq_right, getLsbD_append_ofBool, getLsbD_ofBool_zero, and_self]

/-- The word of TS1. -/
theorem fields_ts1 (threshold : BitVec 4) (mask : Byte) :
    let w := threshold ++ 0#4 ++ mask
    w.extractLsb' 12 4 = threshold ∧ w.extractLsb' 0 8 = mask := by
  intro w
  simp (disch := decide) only [w, BitVec.extractLsb'_append_eq_of_le, Nat.reduceSub, BitVec.extractLsb'_append_eq_right,
    BitVec.extractLsb'_eq_self, and_self]

/-- The word of TS3. -/
theorem fields_ts3 (state : BitVec 3) (failures : BitVec 4) (refs : BitVec 6) (alerting valid : Bool) :
    let w := state ++ failures ++ refs ++ BitVec.ofBool alerting ++ BitVec.ofBool valid ++ 0#1
    w.extractLsb' 13 3 = state ∧ w.extractLsb' 9 4 = failures ∧ w.extractLsb' 3 6 = refs ∧ w.getLsbD 2 = alerting ∧
      w.getLsbD 1 = valid := by
  intro w
  simp (disch := decide) only [w, BitVec.extractLsb'_append_eq_of_le, getLsbD_append_of_le, Nat.reduceSub,
    BitVec.extractLsb'_append_eq_right, BitVec.extractLsb'_eq_self, getLsbD_append_ofBool, and_self]

/-- The word of PS0. -/
theorem fields_ps0 (notify : Bool) (width : BitVec 2) (order signed : Bool) (mode : BitVec 3) (target : BitVec 5) :
    let w := BitVec.ofBool notify ++ width ++ BitVec.ofBool order ++ BitVec.ofBool signed ++ mode ++ 0#3 ++ target
    w.getLsbD 15 = notify ∧ w.extractLsb' 13 2 = width ∧ w.getLsbD 12 = order ∧ w.getLsbD 11 = signed ∧
      w.extractLsb' 8 3 = mode ∧ w.extractLsb' 0 5 = target := by
  intro w
  simp (disch := decide) only [w, BitVec.extractLsb'_append_eq_of_le, getLsbD_append_of_le, Nat.reduceSub,
    BitVec.extractLsb'_append_eq_right, getLsbD_append_ofBool, getLsbD_ofBool_zero, and_self]

/-- The word of PS6. -/
theorem fields_ps6 (hysteresis : Byte) (stale : BitVec 4) (enabled : Bool) :
    let w := hysteresis ++ stale ++ 0#3 ++ BitVec.ofBool enabled
    w.extractLsb' 8 8 = hysteresis ∧ w.extractLsb' 4 4 = stale ∧ w.getLsbD 0 = enabled := by
  intro w
  simp (disch := decide) only [w, BitVec.extractLsb'_append_eq_of_le, Nat.reduceSub, BitVec.extractLsb'_append_eq_right,
    BitVec.extractLsb'_eq_self, getLsbD_append_ofBool, and_self]

/-- The word of PS7. -/
theorem fields_ps7 (overruns : BitVec 8) (misses : BitVec 4) (alarm : BitVec 2) (flag valid : Bool) :
    let w := overruns ++ misses ++ alarm ++ BitVec.ofBool flag ++ BitVec.ofBool valid
    w.extractLsb' 8 8 = overruns ∧ w.extractLsb' 4 4 = misses ∧ w.extractLsb' 2 2 = alarm ∧ w.getLsbD 1 = flag ∧
      w.getLsbD 0 = valid := by
  intro w
  simp (disch := decide) only [w, BitVec.extractLsb'_append_eq_of_le, getLsbD_append_of_le, Nat.reduceSub,
    BitVec.extractLsb'_append_eq_right, BitVec.extractLsb'_eq_self, getLsbD_append_ofBool, and_self]

/-- The words of SS0..SS2. -/
theorem fields_ss (busFree stretch holdoff : Byte) (gap share : BitVec 4) (enable : Bool) :
    let w0 := busFree ++ stretch
    let w1 := gap ++ share ++ 0#7 ++ BitVec.ofBool enable
    (w0.extractLsb' 8 8 = busFree ∧ w0.extractLsb' 0 8 = stretch) ∧
      (w1.extractLsb' 12 4 = gap ∧ w1.extractLsb' 8 4 = share ∧ w1.getLsbD 0 = enable) ∧
      (0#8 ++ holdoff).extractLsb' 0 8 = holdoff := by
  intro w0 w1
  simp (disch := decide) only [w0, w1, BitVec.extractLsb'_append_eq_of_le, Nat.reduceSub,
    BitVec.extractLsb'_append_eq_right, BitVec.extractLsb'_eq_self, getLsbD_append_ofBool, and_self]

/-! ### Codes (Table 12-10) -/

theorem TgtState.code_toNat (st : TgtState) : st.code.toNat = st.number := by cases st <;> rfl

theorem AlarmState.code_toNat (a : AlarmState) : a.code.toNat = a.number := by cases a <;> rfl

theorem CompareMode.code_toNat (m : CompareMode) : m.code.toNat = m.number := by cases m <;> rfl

theorem segBit_eq (x : Seg) : segBit x = decide (x = .b) := by cases x <;> rfl

theorem Speed.bit_eq (v : Speed) : v.bit = decide (v = .fast) := by cases v <;> rfl

theorem ByteOrder.bit_eq (o : ByteOrder) : o.bit = decide (o = .firstLow) := by cases o <;> rfl

theorem segOfBit_segBit (x : Seg) : segOfBit (segBit x) = x := by cases x <;> rfl

theorem speedOfBit_bit (v : Speed) : (if v.bit = true then Speed.fast else Speed.standard) = v := by cases v <;> rfl

theorem orderOfBit_bit (o : ByteOrder) : orderOfBit o.bit = o := by cases o <;> rfl

/-- The compare mode a code names is the one of that number. -/
theorem modeOf_eq_some_iff {code : BitVec 3} {m : CompareMode} : modeOf code = some m ↔ code.toNat = m.number := by
  constructor
  · intro h
    unfold modeOf at h
    split at h <;> cases h <;> assumption
  · intro h
    unfold modeOf
    cases m <;> rw [h] <;> rfl

/-! ### The image of a target entry (R16, Table 12-5) -/

/-- The words of the image of a non-VACANT entry, field by field. -/
theorem targetImage_fields {t : Target} (h : t.state ≠ .vacant) :
    let w := fun n : Fin 6 => (targetImage t).get n
    ((w 0).getLsbD 15 = segBit t.cfg.segment ∧ (w 0).extractLsb' 8 7 = t.cfg.address ∧
      (w 0).extractLsb' 6 2 = t.cfg.width ∧ (w 0).getLsbD 5 = t.cfg.speed.bit ∧
      (w 0).extractLsb' 2 3 = t.cfg.retryLimit ∧ (w 0).getLsbD 1 = t.cfg.alertCapable) ∧
    ((w 1).extractLsb' 12 4 = t.cfg.threshold ∧ (w 1).extractLsb' 0 8 = t.cfg.alertMask) ∧ w 2 = t.cfg.alertIndex ∧
    ((w 3).extractLsb' 13 3 = t.state.code ∧ (w 3).extractLsb' 9 4 = BitVec.ofNat 4 t.failures ∧
      (w 3).extractLsb' 3 6 = BitVec.ofNat 6 t.refs ∧ (w 3).getLsbD 2 = t.alerting ∧ (w 3).getLsbD 1 = t.alertValid) ∧
    w 4 = 0#8 ++ t.alertValue ∧ w 5 = t.lastSeen := by
  have himage : targetImage t = _ := if_neg h
  intro w
  simp only [w, himage]
  exact ⟨fields_ts0 .., fields_ts1 .., rfl, fields_ts3 .., rfl, rfl⟩

/-- Bits and fields of the low byte of a word are those of the word. -/
theorem extractLsb'_loByte (w : Word) {start len : Nat} (h : start + len ≤ 8) :
    (loByte w).extractLsb' start len = w.extractLsb' start len := by
  refine BitVec.eq_of_getLsbD_eq fun i hi => ?_
  have hlt : start + i < 8 := by omega
  simp [loByte, hi, hlt]

theorem getLsbD_loByte (w : Word) {n : Nat} (h : n < 8) : (loByte w).getLsbD n = w.getLsbD n := by
  simp [loByte, h]

/-- A staged target is the fields of TS0..TS2, where R2 calls them legal. -/
theorem stagedTarget_eq_some_iff {ts : Vector Word 6} {c : TargetConfig} :
    stagedTarget ts = some c ↔
      TargetLegal (((ts.get 0).extractLsb' 8 7).setWidth 8) ((ts.get 0).extractLsb' 6 2) ((ts.get 0).getLsbD 1) (ts.get 2)
        ((ts.get 1).extractLsb' 0 8) ∧
      c = { segment := segOfBit ((ts.get 0).getLsbD 15), address := (ts.get 0).extractLsb' 8 7
            width := (ts.get 0).extractLsb' 6 2
            speed := if (ts.get 0).getLsbD 5 = true then Speed.fast else Speed.standard
            retryLimit := (ts.get 0).extractLsb' 2 3, threshold := (ts.get 1).extractLsb' 12 4
            alertCapable := (ts.get 0).getLsbD 1, alertIndex := ts.get 2, alertMask := (ts.get 1).extractLsb' 0 8 } := by
  rw [stagedTarget, targetConfig_eq_some_iff, extractLsb'_loByte _ (by decide), extractLsb'_loByte _ (by decide),
    getLsbD_loByte _ (by decide), getLsbD_loByte _ (by decide)]
  simp only [field, BitVec.setWidth_setWidth_of_le _ (show 7 ≤ 8 by decide), BitVec.setWidth_eq]

/-- The fields of a legal entry read back from its image are the same fields. -/
theorem stagedTarget_image {ts : Vector Word 6} {t : Target} (hc : stagedTarget ts = some t.cfg) (hv : t.state ≠ .vacant) :
    stagedTarget (targetImage t) = some t.cfg := by
  obtain ⟨⟨hsegment, haddress, hwidth, hspeed, hretry, hcapable⟩, ⟨hthreshold, hmask⟩, hindex, -⟩ := targetImage_fields hv
  obtain ⟨hlegal, hcfg⟩ := stagedTarget_eq_some_iff.1 hc
  have hlegal' : TargetLegal (t.cfg.address.setWidth 8) t.cfg.width t.cfg.alertCapable t.cfg.alertIndex t.cfg.alertMask := by
    rw [hcfg]
    exact hlegal
  rw [stagedTarget_eq_some_iff, hsegment, haddress, hwidth, hspeed, hretry, hcapable, hthreshold, hmask,
    show (targetImage t).get 2 = t.cfg.alertIndex from hindex, segOfBit_segBit, speedOfBit_bit]
  exact ⟨hlegal', rfl⟩

/-! ### The image of a poll entry (R144, Table 12-6) -/

/-- The words of the image of a poll entry, field by field. -/
theorem pollImage_fields (p : Poll) :
    let w := fun n : Fin 8 => (pollImage p).get n
    ((w 0).getLsbD 15 = p.cfg.notify ∧ (w 0).extractLsb' 13 2 = p.cfg.width ∧ (w 0).getLsbD 12 = p.cfg.order.bit ∧
      (w 0).getLsbD 11 = p.cfg.signed ∧ (w 0).extractLsb' 8 3 = p.cfg.mode.code ∧
      (w 0).extractLsb' 0 5 = BitVec.ofNat 5 p.cfg.target.val) ∧
    (w 1 = p.cfg.register ∧ w 2 = p.cfg.period ∧ w 3 = p.lastValue ∧ w 4 = p.cfg.high ∧ w 5 = p.cfg.low) ∧
    ((w 6).extractLsb' 8 8 = p.cfg.hysteresis ∧ (w 6).extractLsb' 4 4 = p.cfg.staleLimit ∧ (w 6).getLsbD 0 = p.enabled) ∧
    ((w 7).extractLsb' 8 8 = BitVec.ofNat 8 p.overruns ∧ (w 7).extractLsb' 4 4 = BitVec.ofNat 4 p.misses ∧
      (w 7).extractLsb' 2 2 = p.alarm.code ∧ (w 7).getLsbD 1 = p.flag ∧ (w 7).getLsbD 0 = p.valid) :=
  ⟨fields_ps0 .., ⟨rfl, rfl, rfl, rfl, rfl⟩, fields_ps6 .., fields_ps7 ..⟩

theorem idx32_field5 (w : Word) : (idx32 (w.extractLsb' 0 5).toNat).val = (w.extractLsb' 0 5).toNat :=
  Nat.mod_eq_of_lt (BitVec.isLt _)

theorem orderOfBit_eq (b : Bool) : orderOfBit b = if b = true then .firstLow else .firstHigh := rfl

/-- The configured fields of a poll are taken exactly where R137 calls them legal and the code names a mode. -/
theorem pollConfig_eq_some_iff {w0 w1 w2 w3 w4 w5 w6 : Word} {c : PollConfig} :
    pollConfig w0 w1 w2 w3 w4 w5 w6 = some c ↔
      c.legal = true ∧ (w0.extractLsb' 8 3).toNat = c.mode.number ∧
      c = { target := idx32 (w0.extractLsb' 0 5).toNat, register := w1, width := w0.extractLsb' 13 2
            order := orderOfBit (w0.getLsbD 12), signed := w0.getLsbD 11, period := w2, phase := w3, mode := c.mode
            high := w4, low := w5, hysteresis := w6.extractLsb' 8 8, staleLimit := w6.extractLsb' 4 4
            notify := w0.getLsbD 15 } := by
  rw [← modeOf_eq_some_iff]
  unfold pollConfig
  constructor
  · intro h
    split at h
    · cases h
    · next mode hmode =>
      obtain ⟨hlegal, hc⟩ := Option.ite_none_right_eq_some.1 h
      cases hc
      exact ⟨hlegal, hmode, rfl⟩
  · rintro ⟨hlegal, hmode, hc⟩
    rw [field, hmode]
    dsimp only [field]
    rw [← hc, if_pos hlegal]

/-- The image of a poll entry read back: its configured fields with the last value in the place of the phase. -/
theorem stagedPoll_image (p : Poll) :
    stagedPoll (pollImage p) =
      if PollConfig.legal { p.cfg with phase := p.lastValue } then some { p.cfg with phase := p.lastValue } else none := by
  obtain ⟨⟨hnotify, hwidth, horder, hsigned, hmode, htarget⟩, -, ⟨hhyst, hstale, -⟩, -⟩ := pollImage_fields p
  have hindex : idx32 ((BitVec.ofNat 5 p.cfg.target.val).toNat) = p.cfg.target := by
    rw [ofNat_toNat_of_lt (w := 5) p.cfg.target.isLt, idx32_val]
  have hmodeOf : modeOf (field ((pollImage p).get 0) 8 3) = some p.cfg.mode :=
    modeOf_eq_some_iff.2 ((congrArg BitVec.toNat hmode).trans p.cfg.mode.code_toNat)
  unfold stagedPoll pollConfig
  rw [hmodeOf]
  dsimp only [field]
  rw [hnotify, hwidth, horder, hsigned, htarget, hhyst, hstale, hindex, orderOfBit_bit]
  rfl

/-- The conditions of R137. -/
theorem PollConfig.legal_iff (c : PollConfig) : c.legal = true ↔
    (c.width = 1 ∨ c.width = 2) ∧ (1 ≤ c.period.toNat ∧ c.period.toNat ≤ 60000) ∧ c.phase.toNat ≤ 60000 ∧
    c.staleLimit ≠ 0 ∧ (c.mode = .outside →
      if c.signed = true then c.low.toInt ≤ c.high.toInt else c.low.toNat ≤ c.high.toNat) := by
  have hlimits : valueOf c.signed c.low ≤ valueOf c.signed c.high ↔
      if c.signed = true then c.low.toInt ≤ c.high.toInt else c.low.toNat ≤ c.high.toNat := by
    unfold valueOf
    split
    · rfl
    · exact Int.ofNat_le
  simp only [PollConfig.legal, Bool.and_eq_true, Bool.or_eq_true, decide_eq_true_eq, hlimits, and_assoc, imp_iff_not_or,
    ne_eq]

/-- Another phase in a legal configuration is legal up to 60000. -/
theorem PollConfig.legal_withPhase {c : PollConfig} (h : c.legal = true) (phase : Word) :
    PollConfig.legal { c with phase := phase } = true ↔ phase.toNat ≤ 60000 := by
  obtain ⟨hwidth, hperiod, -, hstale, hlimits⟩ := c.legal_iff.1 h
  rw [PollConfig.legal_iff]
  exact ⟨fun ⟨_, _, hphase, _⟩ => hphase, fun hphase => ⟨hwidth, hperiod, hphase, hstale, hlimits⟩⟩

/-! ### The image of a segment configuration (R106, Table 12-7) -/

theorem stagedFields_image (c : SegConfig) : stagedFields (segImage c) = c := by
  obtain ⟨busFree, stretch, gap, share, enable, holdoff⟩ := c
  obtain ⟨⟨hbusFree, hstretch⟩, ⟨hgap, hshare, henable⟩, hholdoff⟩ := fields_ss busFree stretch holdoff gap share enable
  simp only [stagedFields, SegConfig.mk.injEq]
  exact ⟨hbusFree, hstretch, hgap, hshare, henable, hholdoff⟩

/-- Settles O32: the images read back, and their fields word by word. -/
theorem imagesReadBackAsTheSameFields : Obligations.ImagesReadBackAsTheSameFields := by
  unfold Obligations.ImagesReadBackAsTheSameFields
  refine ⟨fun ts c t hc ht hv => ?target, fun ps c p hc hp => ?poll, fun ss c hc => ?seg, fun t hv hfail hrefs => ?targetFields,
    fun p hmiss hover => ?pollFields⟩
  case target =>
    subst ht
    exact stagedTarget_image hc hv
  case poll =>
    subst hp
    obtain ⟨hlegal, -⟩ := pollConfig_eq_some_iff.1 hc
    rw [stagedPoll_image]
    exact if_congr (PollConfig.legal_withPhase hlegal _) rfl rfl
  case seg =>
    obtain ⟨hlegal, rfl⟩ := stagedSeg_eq_some_iff.1 hc
    rw [stagedSeg_of_legal (by rw [stagedFields_image]; exact hlegal), stagedFields_image]
  case targetFields =>
    obtain ⟨⟨hsegment, haddress, hwidth, hspeed, hretry, hcapable⟩, hw1, hindex, ⟨hstate, hfailures, hcount, halerting, hvalid⟩,
      hvalue, hseen⟩ := targetImage_fields hv
    refine ⟨⟨hsegment.trans (segBit_eq _), haddress, hwidth, hspeed.trans (Speed.bit_eq _), hretry, hcapable⟩,
      ⟨hw1.1, hw1.2, hindex⟩, ?_, ?_, ?_, halerting, hvalid, ?_, hseen⟩
    · rw [hstate, TgtState.code_toNat]
    · rw [hfailures, ofNat_toNat_of_lt (by omega)]
    · rw [hcount, ofNat_toNat_of_lt (by omega)]
    · rw [hvalue]
      exact (BitVec.toNat_append ..).trans (Nat.zero_or _)
  case pollFields =>
    obtain ⟨⟨hnotify, hwidth, horder, hsigned, hmode, htarget⟩, hwords, hw6, hoverruns, hmisses, halarm, hflag, hvalid⟩ :=
      pollImage_fields p
    refine ⟨⟨hnotify, hwidth, horder.trans (ByteOrder.bit_eq _), hsigned, ?_, ?_⟩, hwords, hw6, ?_, ?_, ?_, hflag, hvalid⟩
    · rw [hmode, CompareMode.code_toNat]
    · rw [htarget, ofNat_toNat_of_lt (w := 5) p.cfg.target.isLt]
    · rw [hoverruns, ofNat_toNat_of_lt (by omega)]
    · rw [hmisses, ofNat_toNat_of_lt (by omega)]
    · rw [halarm, AlarmState.code_toNat]

/-! ### POLL_WRITE (O35) -/

/-- The fields of a poll configuration one by one, in the statement's words. -/
theorem pollConfig_eq_some_iff_fields {w0 w1 w2 w3 w4 w5 w6 : Word} {c : PollConfig} :
    pollConfig w0 w1 w2 w3 w4 w5 w6 = some c ↔
    c.legal = true ∧ (w0.extractLsb' 8 3).toNat = c.mode.number ∧ c.target.val = (w0.extractLsb' 0 5).toNat ∧
    c.register = w1 ∧ c.width = w0.extractLsb' 13 2 ∧
    c.order = (if w0.getLsbD 12 = true then ByteOrder.firstLow else ByteOrder.firstHigh) ∧ c.signed = w0.getLsbD 11 ∧
    c.period = w2 ∧ c.phase = w3 ∧ c.high = w4 ∧ c.low = w5 ∧ c.hysteresis = w6.extractLsb' 8 8 ∧
    c.staleLimit = w6.extractLsb' 4 4 ∧ c.notify = w0.getLsbD 15 := by
  have htarget : c.target = idx32 (w0.extractLsb' 0 5).toNat ↔ c.target.val = (w0.extractLsb' 0 5).toNat := by
    rw [← Fin.val_inj, idx32_field5]
  rw [pollConfig_eq_some_iff, ← htarget, ← orderOfBit_eq]
  refine and_congr_right fun _ => and_congr_right fun _ => ?_
  cases c
  simp only [PollConfig.mk.injEq, true_and]

/-- Settles O35: the fields by R137, and the command by its two checks. -/
theorem pollWriteStoresTheConfiguredFields : Obligations.PollWriteStoresTheConfiguredFields := by
  unfold Obligations.PollWriteStoresTheConfiguredFields
  refine ⟨PollConfig.legal_iff, fun w0 w1 w2 w3 w4 w5 w6 c => pollConfig_eq_some_iff_fields, fun ps => rfl, fun arg s hs ha =>
    ⟨fun hon => ?enabled, fun hoff => ⟨fun hc => ?illegal, fun c hc => ?done⟩⟩⟩
  case enabled => exact congrArg _ (command_eq_refusal hs ha (r := .entryInUse) (by simp [hon]))
  case illegal => exact congrArg _ (command_eq_refusal hs ha (r := .badField) (by simp [hoff, hc]))
  case done =>
    refine congrArg _ (command_eq_done hs ha ?checks ?effect)
    case checks => simp [hoff, hc]
    case effect =>
      rw [pollWrite, hc]
      rfl

end Sys2Proof.Machine
end

section
/-! SUPPORT. SUBMIT (2.1, 2.2, Tables 2-2, 2-3, 12-4): the staged fields, the lengths and the index of a kind, the lowest free
slot, and the checks in order. -/

namespace Sys2Proof.Machine

/-! ### Staged fields -/

/-- The kind a code names is the one of that number. -/
theorem kindOf_eq_some_iff {code : BitVec 3} {k : Kind} : kindOf code = some k ↔ code.toNat = k.number := by
  constructor
  · intro h
    unfold kindOf at h
    split at h <;> cases h <;> assumption
  · intro h
    unfold kindOf
    cases k <;> rw [h] <;> rfl

theorem lengthGiven_iff (n : Nat) : lengthGiven n = true ↔ 1 ≤ n ∧ n ≤ 64 := by simp [lengthGiven]

/-- The lengths of a kind, by its row of Table 2-2. -/
theorem Kind.lengthsOk_iff (k : Kind) (w r : Nat) : k.lengthsOk w r = true ↔ LengthRow k w r := by
  cases k <;> simp only [Kind.lengthsOk, LengthRow, Bool.and_eq_true, decide_eq_true_eq, lengthGiven_iff]

/-- Whether an index may be sent, in the statement's words. -/
theorem StagedDescriptor.indexOk_iff (d : StagedDescriptor) (width : BitVec 2) : d.indexOk width = true ↔
    (d.indexPresent = true → d.kind ≠ some .probe ∧ width ≠ 0 ∧ (width = 1 → d.index.toNat ≤ 0xFF)) := by
  have hfits : width ≠ 0 → (indexFits width d.index = true ↔ (width = 1 → d.index.toNat ≤ 0xFF)) := fun h => by
    rw [indexFits_iff]
    exact ⟨fun ⟨_, h1⟩ => h1, fun h1 => ⟨fun h0 => absurd h0 h, h1⟩⟩
  cases hp : d.indexPresent with
  | false => simp [StagedDescriptor.indexOk, hp]
  | true =>
    simp only [StagedDescriptor.indexOk, hp, Bool.not_true, Bool.false_or, Bool.and_eq_true, decide_eq_true_eq, and_assoc,
      true_imp_iff]
    exact and_congr_right fun _ => and_congr_right hfits

/-- Below the slot taken every slot is in use. -/
theorem freeSlot_lowest {q : List Descriptor} {n : Nat} (h : n < freeSlot q) : ∃ d ∈ q, d.slot = n := by
  unfold freeSlot at h
  cases hf : (List.range Config.queueSlots).find? (fun n => q.all fun d => decide (d.slot ≠ n)) with
  | none => rw [hf] at h; exact absurd h (Nat.not_lt_zero n)
  | some m =>
    rw [hf] at h
    obtain ⟨-, -, hbelow⟩ := List.find?_range_eq_some.1 hf
    have hn := hbelow n h
    simpa using hn

/-! ### The checks and the acceptance -/

section
variable {arg : Byte} {s : State}

/-- The checks of a staged descriptor whose kind is one and whose entry and segment take it: from the lengths on. -/
theorem submitChecks_of_kind {k : Kind} (ht : (stagedDescriptor s.ds).target ≤ 31) (hv : (stagedEntry s).state ≠ .vacant)
    (hq : (stagedEntry s).state ≠ .quarantined) (hd : (s.seg (stagedEntry s).cfg.segment).state ≠ .disabled)
    (hk : (stagedDescriptor s.ds).kind = some k) :
    firstFailing (submitChecks s) =
      if k.lengthsOk (stagedDescriptor s.ds).writeLen (stagedDescriptor s.ds).readLen = false then some .badLength
      else if (stagedDescriptor s.ds).indexOk (stagedEntry s).cfg.width = false then some .badIndex
      else if k ≠ .probe ∧ (s.holders.get (stagedDescriptor s.ds).page).isSome = true then some .pageNotHeld
      else if 16 ≤ (s.seg (stagedEntry s).cfg.segment).queue.length then some .queueFull
      else none := by
  have ht' : ¬ 31 < (stagedDescriptor s.ds).target := Nat.not_lt.2 ht
  simp [submitChecks, hk, hv, hq, hd, ht', StagedDescriptor.lengthsOk, StagedDescriptor.usesPage, lent]
  rfl

/-- The descriptor a SUBMIT of kind `k` takes (R29). -/
def heldOf (s : State) (k : Kind) : Descriptor :=
  let d := stagedDescriptor s.ds
  { tag := d.tag, target := idx32 d.target, kind := k, indexPresent := d.indexPresent, index := d.index
    writeLen := d.writeLen, readLen := d.readLen, page := if k = .probe then none else some d.page
    deadline := d.deadline, notify := d.notify, state := .queued, acceptTick := s.tick, cut := false
    slot := freeSlot (s.seg (stagedEntry s).cfg.segment).queue }

theorem acceptedDescriptor_of_kind {k : Kind} (hk : (stagedDescriptor s.ds).kind = some k) :
    acceptedDescriptor s (s.seg (stagedEntry s).cfg.segment).queue = heldOf s k := by
  have huses : (if (stagedDescriptor s.ds).usesPage = true then some (stagedDescriptor s.ds).page else none) =
      if k = .probe then none else some (stagedDescriptor s.ds).page := by
    rw [StagedDescriptor.usesPage, hk]
    cases k <;> rfl
  rw [acceptedDescriptor, huses, hk]
  rfl

/-- The part after the acceptance of a staged descriptor of kind `k`. -/
theorem submit_of_kind {k : Kind} (hk : (stagedDescriptor s.ds).kind = some k) :
    submit s =
      { s.setSeg (stagedEntry s).cfg.segment { s.seg (stagedEntry s).cfg.segment with
          queue := (s.seg (stagedEntry s).cfg.segment).queue ++ [heldOf s k] } with
        targets := vset s.targets (idx32 (stagedDescriptor s.ds).target)
          { stagedEntry s with refs := (stagedEntry s).refs + 1 }
        holders := if k = .probe then s.holders
                   else vset s.holders (stagedDescriptor s.ds).page
                     (some { seg := (stagedEntry s).cfg.segment, slot := (heldOf s k).slot }) } := by
  have hholders : ∀ h, setHolder s.holders (heldOf s k).page h =
      if k = .probe then s.holders else vset s.holders (stagedDescriptor s.ds).page h := fun h => by
    cases k <;> rfl
  rw [submit_eq, acceptedDescriptor_of_kind hk, hholders, State.setTarget, State.setSeg_targets]

/-- An acceptance does not read CMD. -/
theorem submit_withCmd (s : State) (w : Word) : submit { s with cmd := w } = { submit s with cmd := w } := by
  have hset : ∀ x g, State.setSeg { s with cmd := w } x g = { s.setSeg x g with cmd := w } := fun x g => by
    cases x <;> rfl
  rw [submit_eq, submit_eq, hset, State.seg_withCmd]
  rfl

/-- SUBMIT of a kind that entry and segment take: the first failing check from the lengths on, or the acceptance. -/
theorem exec_submit_of_kind (hs : HostReady s) {k : Kind} (ht : (stagedDescriptor s.ds).target ≤ 31)
    (hv : (stagedEntry s).state ≠ .vacant) (hq : (stagedEntry s).state ≠ .quarantined)
    (hd : (s.seg (stagedEntry s).cfg.segment).state ≠ .disabled) (hk : (stagedDescriptor s.ds).kind = some k) :
    exec (.submit arg) s = .next (
      if k.lengthsOk (stagedDescriptor s.ds).writeLen (stagedDescriptor s.ds).readLen = false then s.refusal 0x01 arg 0x06
      else if (stagedDescriptor s.ds).indexOk (stagedEntry s).cfg.width = false then s.refusal 0x01 arg 0x07
      else if k ≠ .probe ∧ (s.holders.get (stagedDescriptor s.ds).page).isSome = true then s.refusal 0x01 arg 0x08
      else if 16 ≤ (s.seg (stagedEntry s).cfg.segment).queue.length then s.refusal 0x01 arg 0x09
      else (submit s).done 0x01 arg) := by
  have harg : arg.toNat < 256 := arg.isLt
  have hchecks := submitChecks_of_kind ht hv hq hd hk
  refine congrArg Host.Outcome.next (?_ : command 0x01 arg 256 submitChecks submit s = _)
  split
  case isTrue h => exact command_eq_refusal hs harg (r := .badLength) (by rw [hchecks, if_pos h])
  case isFalse hlen =>
  rw [if_neg hlen] at hchecks
  split
  case isTrue h => exact command_eq_refusal hs harg (r := .badIndex) (by rw [hchecks, if_pos h])
  case isFalse hindex =>
  rw [if_neg hindex] at hchecks
  split
  case isTrue h => exact command_eq_refusal hs harg (r := .pageNotHeld) (by rw [hchecks, if_pos h])
  case isFalse hpage =>
  rw [if_neg hpage] at hchecks
  split
  case isTrue h => exact command_eq_refusal hs harg (r := .queueFull) (by rw [hchecks, if_pos h])
  case isFalse hfull =>
    rw [if_neg hfull] at hchecks
    exact command_eq_done hs harg hchecks (submit_withCmd s _)

theorem exec_submit_refused (hs : HostReady s) {r : ResultCode} (h : firstFailing (submitChecks s) = some r) :
    exec (.submit arg) s = .next (s.refusal 0x01 arg r.code) :=
  congrArg _ (command_eq_refusal hs arg.isLt h)

end

/-- Settles O19: the staged fields, the three tests of Tables 2-2 and 2-3, and SUBMIT check by check. -/
theorem submitChecksThenAccepts : Obligations.SubmitChecksThenAccepts := by
  unfold Obligations.SubmitChecksThenAccepts
  refine ⟨fun ds => ⟨rfl, rfl, fun k => kindOf_eq_some_iff, rfl, rfl, idx32_field5 _, rfl, rfl, rfl, rfl⟩,
    Kind.lengthsOk_iff, StagedDescriptor.indexOk_iff,
    fun q hq => ⟨(freeSlot_free hq).2, fun n hn => freeSlot_lowest hn⟩, fun arg s hs => ⟨fun h => ?badTarget, fun h =>
      ⟨fun hq => ?quarantined, fun hd => ?disabled, fun hk => ?badKind, fun k hq hd hk => ?kind⟩⟩⟩
  case badTarget =>
    have hbad : firstFailing (submitChecks s) = some .badTarget := by
      rw [submitChecks, firstFailing_cons, if_pos]
      exact Bool.or_eq_true_iff.2 (h.imp (fun ht => decide_eq_true ht) (fun hv => decide_eq_true hv))
    exact exec_submit_refused hs hbad
  all_goals
    obtain ⟨ht, hv⟩ := not_or.1 h
    have hv : (stagedEntry s).state ≠ .vacant := hv
  case quarantined =>
    have hq : (stagedEntry s).state = .quarantined := hq
    exact exec_submit_refused hs (r := .quarantined) (by simp [submitChecks, ht, hq])
  case disabled =>
    obtain ⟨hq, hd⟩ := hd
    have hq : (stagedEntry s).state ≠ .quarantined := hq
    have hd : (s.seg (stagedEntry s).cfg.segment).state = .disabled := hd
    exact exec_submit_refused hs (r := .segmentDisabled) (by simp [submitChecks, ht, hv, hq, hd])
  case badKind =>
    obtain ⟨hq, hd, hk⟩ := hk
    have hq : (stagedEntry s).state ≠ .quarantined := hq
    have hd : (s.seg (stagedEntry s).cfg.segment).state ≠ .disabled := hd
    exact exec_submit_refused hs (r := .badKind) (by simp [submitChecks, ht, hv, hq, hd, hk])
  case kind =>
    rw [exec_submit_of_kind hs (Nat.not_lt.1 ht) hv hq hd hk, submit_of_kind hk]
    rfl

end Sys2Proof.Machine
end

section
/-! SUPPORT. The engine's reports and state at the end of a transaction in the statements' words, and ABORT (2.5, Tables 5-6 and
5-7). -/

namespace Sys2Proof.Machine

/-! ### The end of a transaction -/

theorem handOut_eq_reported (g : Segment) (it : Item) (o : TxOutcome) : g.handOut it o = g.reported it o := by
  unfold Segment.handOut Segment.reported Segment.report
  cases it.supplier with
  | queue => rfl
  | poll entry grant => cases it.detached <;> rfl
  | alert => cases it.detached <;> rfl
  | loader => rfl

theorem SegState.afterTransaction_false (st : SegState) : st.afterTransaction false = stateAfterWork st := by cases st <;> rfl

theorem SegState.afterTransaction_true (st : SegState) : st.afterTransaction true = stateAfterFault st := by cases st <;> rfl

/-- The state a transaction's end leaves is read from the segment before the reports go out. -/
theorem closeItem_eq {it : Item} (h : it.supplier ≠ .loader) (s : State) (x : Seg) (o : TxOutcome) :
    closeItem s x it o = s.setSeg x { (s.seg x).reported it o with state := (s.seg x).state.afterTransaction o.isFault } := by
  obtain ⟨-, -, hst, -⟩ := handOut_frame (s.seg x) it o
  rw [closeItem_shape h, hst, handOut_eq_reported]

/-- The end with an outcome that is no fault. -/
theorem closeItem_ended {it : Item} (h : it.supplier ≠ .loader) {o : TxOutcome} (ho : o.isFault = false) (s : State) (x : Seg) :
    closeItem s x it o = s.setSeg x { (s.seg x).reported it o with state := stateAfterWork (s.seg x).state } := by
  rw [closeItem_eq h, ho, SegState.afterTransaction_false]

/-! ### ABORT (O21) -/

theorem Descriptor.abort_eq_cancelled (d : Descriptor) : d.abort = cancelled d := by
  unfold Descriptor.abort cancelled
  cases d.state <;> rfl

/-- A segment whose engine is told of an ABORT: a descriptor's item not yet cut ends at once off the wires, and is marked
elsewhere. -/
def Segment.cutShort (g : Segment) : Segment :=
  match g.item with
  | some it =>
    if it.supplier = .queue ∧ it.cut = false then
      if it.offWires then { g.reported it .aborted with state := stateAfterWork g.state }
      else { g with item := some it.markCut }
    else g
  | none => g

theorem cutItem_eq (s : State) (x : Seg) : cutItem s x = s.setSeg x (s.seg x).cutShort := by
  unfold cutItem Segment.cutShort
  cases hit : (s.seg x).item with
  | none => exact (State.setSeg_self s x).symm
  | some it =>
    dsimp only
    by_cases hc : it.supplier = .queue ∧ it.cut = false
    · obtain ⟨hsup, hcut⟩ := hc
      have hown : it.supplier ≠ .loader := by rw [hsup]; decide
      simp only [hsup, hcut, decide_true, Bool.not_false, Bool.and_self, and_self, if_true]
      split
      · exact closeItem_ended hown rfl s x
      · rfl
    · have hoff : (decide (it.supplier = .queue) && !it.cut) = false := by
        rw [Bool.eq_false_iff]
        simpa using hc
      rw [hoff, if_neg hc, if_neg Bool.false_ne_true, State.setSeg_self]

/-- A segment after an ABORT: its descriptors cancelled or marked, and its engine told. -/
def Segment.aborted (g : Segment) : Segment := { g with queue := g.queue.map cancelled }.cutShort

theorem abort_eq (x : Seg) (s : State) : abort x s = s.setSeg x (s.seg x).aborted := by
  have hq : Descriptor.abort = cancelled := funext Descriptor.abort_eq_cancelled
  rw [abort, cutItem_eq, State.updSeg_eq, State.setSeg_setSeg, State.seg_setSeg_same, hq, Segment.aborted]

/-- An ABORT of a ready host says nothing of the wires: it is answered DONE. -/
theorem exec_abort_ready {s : State} (hs : HostReady s) (x : Seg) :
    exec (.abort (segArg x) []) s = .next ((s.setSeg x (s.seg x).aborted).done 0x03 (segArg x)) := by
  rw [exec_abort_nil, segOf_segArg]
  refine congrArg _ (command_eq_done hs (segArg_lt x) firstFailing_nil ?_)
  rw [abort_eq, State.seg_withCmd]
  cases x <;> rfl

theorem Segment.aborted_of_untouched {g : Segment} (h : ∀ it, g.item = some it → it.supplier = .queue → it.cut = true) :
    g.aborted = { g with queue := g.queue.map cancelled } := by
  unfold Segment.aborted Segment.cutShort
  dsimp only
  split
  · next it hit =>
    refine if_neg fun ⟨hq, hcut⟩ => ?_
    rw [h it hit hq] at hcut
    cases hcut
  · rfl

section
variable {g : Segment} {it : Item} (hit : g.item = some it) (hq : it.supplier = .queue) (hcut : it.cut = false)
include hit hq hcut

theorem Segment.aborted_off {i : Fin 32} (ht : it.target = some i) (h : it.offWires = true) :
    g.aborted = { g with
      queue := g.queue.map cancelled, item := none, state := stateAfterWork g.state
      headReport := some { outcome := .aborted, attempts := it.attempts, writeCount := it.writeCount, readCount := it.readCount }
      tableReports := g.tableReports ++
        [{ target := i, ofDescriptor := true, dropped := false, body := .outcome .aborted }] } := by
  simp only [Segment.aborted, Segment.cutShort, Segment.reported, hit, hq, hcut, ht, h, and_self, if_true, decide_true]

theorem Segment.aborted_on (h : it.offWires = false) :
    g.aborted = { g with queue := g.queue.map cancelled, item := some it.markCut } := by
  simp only [Segment.aborted, Segment.cutShort, hit, hq, hcut, h, and_self, if_true, Bool.false_eq_true, if_false]

end

/-- Whether an item's engine is off the wires, in the statement's words. -/
theorem Item.offWires_iff (it : Item) : it.offWires = true ↔ it.phase = .gap ∨ (it.phase = .opening ∧ it.point = .free) := by
  simp [Item.offWires]

/-- With RSTn high what an ABORT says of the wires is taken one happening after the other. -/
theorem exec_abort_cons {s : State} (hrst : s.rstnLow = false) (arg : Byte) (x : Seg) (w : Wire) (seen : List (Seg × Wire)) :
    exec (.abort arg ((x, w) :: seen)) s = exec (.abort arg seen) (takeWire x w s) := by
  have hkeep : (takeWire x w s).rstnLow = false := by
    rcases takeWire_cases x w s with h | ⟨g, -, h⟩
    · rw [h, hrst]
    · rw [h, State.setSeg_rstnLow, hrst]
  have hnot : ∀ {u : State}, u.rstnLow = false → ¬ u.rstnLow = true := fun h => by rw [h]; exact Bool.false_ne_true
  rw [exec, exec, execAbort, execAbort, takeBefore, takeBefore, if_neg (hnot hrst), if_neg (hnot hkeep), takeWires_cons]

/-- Settles O21: the segment an ABORT leaves, by the phase and point its engine is cut at. -/
theorem abortCancelsAndCuts : Obligations.AbortCancelsAndCuts := by
  unfold Obligations.AbortCancelsAndCuts
  refine ⟨fun x s hs h => ?_, fun arg x w seen s hrst => exec_abort_cons hrst arg x w seen,
    fun x s it i hs hit hq hcut ht => ⟨fun h => ?off, fun h => ?retry, fun h => ?on, fun h => ?received⟩⟩
  · rw [exec_abort_ready hs, Segment.aborted_of_untouched h]
  case off => exact (exec_abort_ready hs x).trans (by rw [Segment.aborted_off hit hq hcut ht (it.offWires_iff.2 h)])
  case retry =>
    have hoff : it.offWires = false := by simp [Item.offWires, h]
    have hmark : it.markCut = { it with cut := true, phase := .stop (.ended .aborted) } := by simp [Item.markCut, h]
    exact (exec_abort_ready hs x).trans (by rw [Segment.aborted_on hit hq hcut hoff, hmark])
  case on =>
    have hoff : it.offWires = false := by
      rcases h with ⟨h, hp⟩ | h | ⟨k, h⟩ | h | ⟨o, h⟩ <;> simp [Item.offWires, *]
    have hmark : it.markCut = { it with cut := true } := by
      rcases h with ⟨h, -⟩ | h | ⟨k, h⟩ | h | ⟨o, h⟩ <;> simp [Item.markCut, h]
    exact (exec_abort_ready hs x).trans (by rw [Segment.aborted_on hit hq hcut hoff, hmark])
  case received =>
    have hoff : it.offWires = false := by rcases h with h | ⟨n, h⟩ <;> simp [Item.offWires, h]
    have hmark : it.markCut = { it with cut := true, cutLate := decide (it.point = .ninth) } := by
      rcases h with h | ⟨n, h⟩ <;> simp [Item.markCut, h]
    exact (exec_abort_ready hs x).trans (by rw [Segment.aborted_on hit hq hcut hoff, hmark])

end Sys2Proof.Machine
end

section
/-! SUPPORT. RINGSTAT, the report of an ACTIVE head and the retirement of a settled one (2.3, 2.6, 3.2, Tables 2-5 and 12-9). -/

namespace Sys2Proof.Machine

/-! ### RINGSTAT -/

/-- The fields of RINGSTAT, and its unused bits. -/
theorem fields_ringStat (waitB waitA : Bool) (count : BitVec 6) :
    let w := BitVec.ofBool waitB ++ BitVec.ofBool waitA ++ 0#8 ++ count
    w.extractLsb' 0 6 = count ∧ w.getLsbD 14 = waitA ∧ w.getLsbD 15 = waitB := by
  intro w
  simp (disch := decide) only [w, getLsbD_append_of_le, Nat.reduceSub, BitVec.extractLsb'_append_eq_right,
    getLsbD_append_ofBool, getLsbD_ofBool_zero, and_self]

theorem ringStat_unused (waitB waitA : Bool) (count : BitVec 6) :
    (BitVec.ofBool waitB ++ BitVec.ofBool waitA ++ 0#8 ++ count) &&& (0#1 ++ 0#1 ++ 255#8 ++ 0#6) = 0 := by
  simp only [BitVec.and_append, BitVec.and_zero, BitVec.zero_and]
  rfl

/-- When a head's outcome is fixed, in the statement's words. -/
theorem DescState.settled_iff (st : DescState) :
    st.settled = true ↔ st = .cancelled ∨ st = .expired ∨ ∃ o a w r, st = .finished o a w r := by
  cases st with
  | finished o a w r => exact ⟨fun _ => .inr (.inr ⟨o, a, w, r, rfl⟩), fun _ => rfl⟩
  | _ => simp [DescState.settled]

theorem retireWait_iff (s : State) (x : Seg) : retireWait s x = true ↔ s.ring.length = 32 ∧
    ∃ d rest, (s.seg x).queue = d :: rest ∧
      (d.state = .cancelled ∨ d.state = .expired ∨ ∃ o a w r, d.state = .finished o a w r) := by
  have hsettled : headSettled (s.seg x).queue = true ↔ ∃ d rest, (s.seg x).queue = d :: rest ∧
      (d.state = .cancelled ∨ d.state = .expired ∨ ∃ o a w r, d.state = .finished o a w r) := by
    unfold headSettled
    cases (s.seg x).queue with
    | nil => simp
    | cons d rest => simp [DescState.settled_iff]
  rw [retireWait, Bool.and_eq_true, hsettled, and_comm, decide_eq_true_eq]
  rfl

/-! ### The head -/

section
variable {x : Seg} {s : State} {d : Descriptor} {rest : List Descriptor} (hq : (s.seg x).queue = d :: rest)
include hq

theorem headFinished_active {r : HeadReport} (ha : d.state = .active) (hr : (s.seg x).headReport = some r) :
    headFinished x s = some (s.setSeg x { s.seg x with
      headReport := none
      queue := { d with state := .finished r.outcome r.attempts r.writeCount r.readCount } :: rest }) := by
  simp only [headFinished, hq, hr, ha, if_true]

theorem retirement_settled {c : Completion} (hc : d.completion s.tick = some c) :
    retirement x s =
      if s.ring.length < 32 then some { s.setSeg x { s.seg x with queue := rest } with
        targets := vset s.targets d.target { s.target d.target with refs := (s.target d.target).refs - 1 }
        holders := setHolder s.holders d.page none
        ring := s.ring ++ [c] }
      else none := by
  unfold retirement
  rw [hq]
  dsimp only
  rw [hc]
  cases x <;> rfl

theorem retirement_unsettled (hc : d.completion s.tick = none) : retirement x s = none := by
  unfold retirement
  rw [hq]
  dsimp only
  rw [hc]

end

/-- The completion entry of a settled descriptor (Table 2-5). -/
theorem Descriptor.completion_of_settled {d : Descriptor} {o : TxOutcome} {a w r : Nat}
    (h : d.state = .finished o a w r ∨ (d.state = .cancelled ∧ o = .cancelled ∧ a = 0 ∧ w = 0 ∧ r = 0) ∨
      (d.state = .expired ∧ o = .expired ∧ a = 0 ∧ w = 0 ∧ r = 0)) (now : Tick) :
    d.completion now = some { tag := d.tag, target := d.target, kind := d.kind, outcome := o, attempts := a, writeCount := w
                              readCount := r, page := d.page, notify := d.notify, stamp := stampOf now } := by
  rcases h with h | ⟨h, rfl, rfl, rfl, rfl⟩ | ⟨h, rfl, rfl, rfl, rfl⟩ <;> rw [Descriptor.completion, h]

theorem Descriptor.completion_of_unsettled {d : Descriptor} (h : d.state = .queued ∨ d.state = .active) (now : Tick) :
    d.completion now = none := by
  rcases h with h | h <;> rw [Descriptor.completion, h]

/-- Settles O23: RINGSTAT by its fields, and the two rows of a head by what they find. -/
theorem headFinishesThenRetires : Obligations.HeadFinishesThenRetires := by
  unfold Obligations.HeadFinishesThenRetires
  refine ⟨fun s hlen => ?ringstat, fun x s d rest hrst hq => ⟨fun r ha hr => ?finished, fun o a w r h => ?retired,
    fun h => ?unsettled⟩⟩
  case ringstat =>
    obtain ⟨hcount, ha, hb⟩ := fields_ringStat (retireWait s .b) (retireWait s .a) (BitVec.ofNat 6 s.ring.length)
    refine ⟨?_, ringStat_unused _ _ _, fun x => ?_⟩
    · exact (congrArg BitVec.toNat hcount).trans (ofNat_toNat_of_lt (by omega))
    · rw [← retireWait_iff]
      cases x with
      | a => exact Eq.congr_left ha
      | b => exact Eq.congr_left hb
  case finished => rw [exec, execHeadFinished, headFinished_active hq ha hr, happen_some hrst]
  case retired =>
    rw [exec, execRetirement, retirement_settled hq (Descriptor.completion_of_settled h s.tick)]
    refine ⟨fun hroom => ?_, fun hfull => ?_⟩
    · rw [if_pos hroom, happen_some hrst]
      rfl
    · rw [if_neg (Nat.not_lt.2 hfull), happen_none]
  case unsettled =>
    rw [exec, execRetirement, retirement_unsettled hq (Descriptor.completion_of_unsettled h s.tick), happen_none]

end Sys2Proof.Machine
end

section
/-! SUPPORT. The Poll Unit's happenings and the advance of the tick (6.5, 8.3 to 8.5). -/

namespace Sys2Proof.Machine

/-! ### Due times (O37) -/

theorem scheduled_iff (s : State) (p : Poll) :
    scheduled s p = true ↔ p.enabled = true ∧ (s.seg (s.target p.cfg.target).cfg.segment).state ≠ .disabled := by
  rw [scheduled, Bool.and_eq_true, decide_eq_true_eq]
  rfl

theorem reached_iff (s : State) (p : Poll) : reached s p = true ↔ (s.tick - p.nextDue).toNat < 65536 := decide_eq_true_iff

theorem pollQuarantined_iff (s : State) (p : Poll) :
    pollQuarantined s p = true ↔ (s.target p.cfg.target).state = .quarantined := decide_eq_true_iff

/-- When an overrun that an advance found is taken, in the statement's words. -/
theorem overrun_iff (s : State) (p : Poll) :
    (decide (p.owed = .overrun) && due s p && decide (p.cfg.period.toNat ≤ elapsed p.nextDue s.tick)) = true ↔
      p.owed = .overrun ∧ (p.enabled = true ∧ (s.seg (s.target p.cfg.target).cfg.segment).state ≠ .disabled) ∧
        (s.tick - p.nextDue).toNat < 65536 ∧ ¬ (s.target p.cfg.target).state = .quarantined ∧
        p.cfg.period.toNat ≤ (s.tick - p.nextDue).toNat := by
  have hq : (!pollQuarantined s p) = true ↔ ¬ (s.target p.cfg.target).state = .quarantined := by
    rw [Bool.not_eq_true', Bool.eq_false_iff, Ne, pollQuarantined_iff]
  rw [due, Bool.and_eq_true, Bool.and_eq_true, Bool.and_eq_true, Bool.and_eq_true, scheduled_iff, reached_iff, hq,
    decide_eq_true_eq, decide_eq_true_eq, and_assoc, and_assoc, and_assoc]
  rfl

/-- When a quarantine miss that an advance found is taken, in the statement's words. -/
theorem quarantineMiss_iff (s : State) (p : Poll) :
    (decide (p.owed = .miss) && scheduled s p && reached s p && pollQuarantined s p) = true ↔
      p.owed = .miss ∧ (p.enabled = true ∧ (s.seg (s.target p.cfg.target).cfg.segment).state ≠ .disabled) ∧
        (s.tick - p.nextDue).toNat < 65536 ∧ (s.target p.cfg.target).state = .quarantined := by
  rw [Bool.and_eq_true, Bool.and_eq_true, Bool.and_eq_true, scheduled_iff, reached_iff, pollQuarantined_iff,
    decide_eq_true_eq, and_assoc, and_assoc]

/-- Settles O37: each happening by its test. -/
theorem overrunsAndQuarantineMissesAreTaken : Obligations.OverrunsAndQuarantineMissesAreTaken := by
  unfold Obligations.OverrunsAndQuarantineMissesAreTaken
  refine fun i s hrst => ⟨?due, fun h => ?overrun, fun h => ?noOverrun, fun h => ?miss, fun h => ?noMiss⟩
  case due => rw [exec, execPollDue, happen_some hrst]
  case overrun =>
    rw [exec, execPollOverrun, pollOverrun]
    dsimp only
    rw [if_pos ((overrun_iff s (s.poll i)).2 h), happen_some hrst]
    rfl
  case noOverrun =>
    rw [exec, execPollOverrun, pollOverrun, if_neg (mt (overrun_iff s (s.poll i)).1 h), happen_none]
  case miss =>
    rw [exec, execQuarantineMiss, quarantineMiss, if_pos ((quarantineMiss_iff s (s.poll i)).2 h), happen_some hrst, Poll.miss_eq_missed]
    rfl
  case noMiss =>
    rw [exec, execQuarantineMiss, quarantineMiss, if_neg (mt (quarantineMiss_iff s (s.poll i)).1 h), happen_none]

/-! ### The tick (O38) -/

theorem setSeg_withWires (s : State) (x : Seg) (g : Segment) (w : List (List (Seg × Wire))) :
    State.setSeg { s with wires := w } x g = { s.setSeg x g with wires := w } := by cases x <;> rfl

/-- What the wires do does not depend on what they do later. -/
theorem takeWire_withWires (x : Seg) (h : Wire) (s : State) (w : List (List (Seg × Wire))) :
    takeWire x h { s with wires := w } = { takeWire x h s with wires := w } := by
  have hseg : State.seg { s with wires := w } x = s.seg x := by cases x <;> rfl
  rw [takeWire, takeWire, hseg]
  cases (s.seg x).wire s.tick h with
  | none => rfl
  | some g => exact setSeg_withWires s x g w

theorem takeWires_withWires (seen : List (Seg × Wire)) (w : List (List (Seg × Wire))) :
    ∀ s : State, takeWires seen { s with wires := w } = { takeWires seen s with wires := w } := by
  induction seen with
  | nil => exact fun _ => rfl
  | cons c rest ih =>
    intro s
    rw [takeWires_cons, takeWires_cons, takeWire_withWires, ih]

theorem takeWire_rstnLow (x : Seg) (w : Wire) (s : State) : (takeWire x w s).rstnLow = s.rstnLow := by
  rcases takeWire_cases x w s with h | ⟨g, -, h⟩
  · rw [h]
  · rw [h, State.setSeg_rstnLow]

theorem takeWires_rstnLow (seen : List (Seg × Wire)) (s : State) : (takeWires seen s).rstnLow = s.rstnLow :=
  takeWires_keeps (P := fun u => u.rstnLow = s.rstnLow) (fun x w u h => (takeWire_rstnLow x w u).trans h) seen s rfl

/-- With RSTn high and nothing said of the wires an advance is taken as it is. -/
theorem exec_tickAdvance_quiet {s : State} (hrst : s.rstnLow = false) (hw : s.wires = []) :
    exec .tickAdvance s = .next (tickAdvance s) := by
  rw [exec, execTickAdvance, happen_some hrst, takeMillisecond, hw]

theorem exec_tickAdvance_wires {s : State} (hrst : s.rstnLow = false) {seen : List (Seg × Wire)}
    {rest : List (List (Seg × Wire))} (hw : s.wires = seen :: rest) :
    exec .tickAdvance s = .next (tickAdvance (takeWires seen { s with wires := rest })) := by
  rw [exec, execTickAdvance, happen_some hrst, takeMillisecond, hw]

theorem tickAdvance_withWires (s : State) (w : List (List (Seg × Wire))) :
    tickAdvance { s with wires := w } = { tickAdvance s with wires := w } := rfl

/-- An advance notes of each entry what it finds at the next tick. -/
theorem poll_tickAdvance (s : State) (i : Fin 24) :
    (tickAdvance s).poll i = { s.poll i with owed := owedAt { s with tick := s.tick + 1 } (s.poll i) } := vmap_get ..

theorem owedAt_miss_iff (s : State) (p : Poll) : owedAt s p = .miss ↔
    (scheduled s p = true ∧ reached s p = true) ∧ pollQuarantined s p = true := by
  rw [← Bool.and_eq_true, owedAt]
  split
  · next hs =>
    split
    · next hq => simp [hs, hq]
    · next hq => split <;> simp [hq]
  · next hs => simp [hs]

theorem owedAt_overrun_iff (s : State) (p : Poll) : owedAt s p = .overrun ↔
    (scheduled s p = true ∧ reached s p = true) ∧ ¬ pollQuarantined s p = true ∧
      p.cfg.period.toNat ≤ elapsed p.nextDue s.tick := by
  rw [← Bool.and_eq_true, owedAt]
  split
  · next hs =>
    split
    · next hq => simp [hq]
    · next hq => simp [hs, hq]
  · next hs => simp [hs]

/-- Settles O38: the wires' millisecond first, then the count and what it finds. -/
theorem tickAdvanceCountsAndFindsOverdues : Obligations.TickAdvanceCountsAndFindsOverdues := by
  unfold Obligations.TickAdvanceCountsAndFindsOverdues
  refine ⟨fun seen rest s hrst hw => ?wires, fun s hrst hw => ?quiet⟩
  case wires =>
    have hlow : (takeWires seen { s with wires := [] }).rstnLow = false := (takeWires_rstnLow ..).trans hrst
    have hnone : (takeWires seen { s with wires := [] }).wires = [] := by rw [takeWires_withWires]
    refine ⟨_, exec_tickAdvance_quiet hlow hnone, ?_⟩
    show _ = Host.Outcome.next { tickAdvance (takeWires seen { s with wires := [] }) with wires := rest }
    rw [exec_tickAdvance_wires hrst hw, takeWires_withWires seen rest, takeWires_withWires seen [], tickAdvance_withWires,
      tickAdvance_withWires]
    rfl
  case quiet =>
    refine ⟨_, exec_tickAdvance_quiet hrst hw, rfl, rfl, fun i => ?_⟩
    rw [poll_tickAdvance]
    have hscheduled := scheduled_iff { s with tick := s.tick + 1 } (s.poll i)
    have hreached := reached_iff { s with tick := s.tick + 1 } (s.poll i)
    have hquarantined := pollQuarantined_iff { s with tick := s.tick + 1 } (s.poll i)
    refine ⟨rfl, ?_, ?_⟩
    · refine (owedAt_miss_iff _ _).trans ?_
      rw [hscheduled, hreached, hquarantined, and_assoc (c := _ < _)]
      rfl
    · refine (owedAt_overrun_iff _ _).trans ?_
      rw [hscheduled, hreached, hquarantined, and_assoc (c := _ < _)]
      rfl

/-! ### Reports of poll reads (O39) -/

theorem pollReadReport_eq {x : Seg} {s : State} {r : PollReport} {rest : List PollReport}
    (h : (s.seg x).pollReports = r :: rest) :
    pollReadReport x s =
      some ((s.setSeg x { s.seg x with pollReports := rest }).setPoll r.entry ((s.poll r.entry).report r)) := by
  unfold pollReadReport
  rw [h]
  cases x <;> rfl

theorem setPoll_self (s : State) (i : Fin 24) : s.setPoll i (s.poll i) = s := by rw [State.setPoll, State.poll, vset_self]

theorem Poll.report_of_earlier {p : Poll} {r : PollReport} (h : p.latestGrant ≠ r.grant) : p.report r = p := if_neg h

theorem Poll.report_of_withdrawn {p : Poll} {r : PollReport} (h : p.latestGrant = r.grant) (hm : p.mark ≠ .current) :
    p.report r = { p with mark := .none } := by
  rw [Poll.report, if_pos h, if_neg hm]

theorem Poll.report_of_failed {p : Poll} {r : PollReport} (h : p.latestGrant = r.grant) (hm : p.mark = .current)
    (ho : r.outcome ≠ .ok) : p.report r = { p.missed with mark := .none } := by
  rw [Poll.report, if_pos h, if_pos hm, Poll.take, if_neg ho, Poll.miss_eq_missed]

theorem Poll.report_of_ok {p : Poll} {r : PollReport} (h : p.latestGrant = r.grant) (hm : p.mark = .current)
    (ho : r.outcome = .ok) : p.report r = { p.goodRead r.bytes with mark := .none } := by
  rw [Poll.report, if_pos h, if_pos hm, Poll.take, if_pos ho]

/-- Settles O39: what the entry makes of the oldest report, by its grant, mark and outcome. -/
theorem pollReadReportIsTakenByItsGrant : Obligations.PollReadReportIsTakenByItsGrant := by
  unfold Obligations.PollReadReportIsTakenByItsGrant
  intro x s i grant o bytes rest hrst hr
  have htaken : exec (.pollReadReport x) s = .next
      ((s.setSeg x { s.seg x with pollReports := rest }).setPoll i
        ((s.poll i).report { entry := i, grant := grant, outcome := o, bytes := bytes })) := by
    rw [exec, execPollReadReport, pollReadReport_eq hr, happen_some hrst]
  rw [State.setPoll, State.setSeg_polls] at htaken
  refine ⟨fun hw => if_pos hw, fun hg => ?earlier, fun hg => ⟨fun hm => ?withdrawn, fun hm ho => ?failed, fun hm ho => ?ok⟩⟩
  case earlier =>
    rw [htaken, Poll.report_of_earlier hg]
    exact congrArg Host.Outcome.next (by rw [State.poll, vset_self]; cases x <;> rfl)
  case withdrawn => rw [htaken, Poll.report_of_withdrawn hg hm]
  case failed => rw [htaken, Poll.report_of_failed hg hm ho]
  case ok =>
    rw [htaken, Poll.report_of_ok hg hm ho, Poll.goodRead, Poll.flagIf]
    simp only [Bool.and_comm]

end Sys2Proof.Machine
end

section
/-! SUPPORT. The tests of a sweep, the Alert Resolvers' happenings, and the choice of a grant decision in the statements' words
(6.3, chapter 9). -/

namespace Sys2Proof.Machine

/-! ### Tests of a sweep (O41) -/

/-- Whether a sweep of a segment reads an entry at or above a cursor (R161). -/
def SweepReads (s : State) (x : Seg) (cursor : Nat) (i : Fin 32) : Prop :=
  cursor ≤ i.val ∧ (s.target i).state ≠ .vacant ∧ (s.target i).cfg.segment = x ∧ (s.target i).cfg.alertCapable = true ∧
    (s.target i).state ≠ .quarantined

theorem sweepReads_iff (s : State) (x : Seg) (cursor : Nat) (i : Fin 32) :
    (decide (cursor ≤ i.val) && qualifies (s.target i) x) = true ↔ SweepReads s x cursor i := by
  simp only [qualifies, SweepReads, Bool.and_eq_true, decide_eq_true_eq, and_assoc]

/-- The target a sweep reads next is the lowest it reads at all. -/
theorem nextQualifying_eq_some_iff {s : State} {x : Seg} {cursor : Nat} {i : Fin 32} :
    nextQualifying s x cursor = some i ↔ SweepReads s x cursor i ∧ ∀ j, SweepReads s x cursor j → i ≤ j := by
  rw [nextQualifying, List.find?_eq_some_iff_getElem, sweepReads_iff]
  refine and_congr_right fun _ => ⟨?_, fun h => ⟨i.val, by simp, by simp, fun j hj => ?_⟩⟩
  · rintro ⟨n, hn, hget, hbelow⟩ j hread
    rw [List.getElem_finRange] at hget
    have hin : i.val = n := by rw [← hget]; rfl
    refine Nat.le_of_not_lt fun hlt => ?_
    have hskip := hbelow j.val (hin ▸ hlt)
    rw [List.getElem_finRange] at hskip
    have hread' := (sweepReads_iff s x cursor j).2 hread
    rw [Bool.not_eq_true'] at hskip
    exact Bool.false_ne_true (hskip.symm.trans hread')
  · rw [List.getElem_finRange, Bool.not_eq_true', Bool.eq_false_iff]
    intro hread
    exact absurd hj (Nat.not_lt.2 (h _ ((sweepReads_iff s x cursor _).1 hread)))

theorem nextQualifying_isNone_iff {s : State} {x : Seg} {cursor : Nat} :
    (nextQualifying s x cursor).isNone = true ↔ ¬ ∃ i, SweepReads s x cursor i := by
  rw [Option.isNone_iff_eq_none, nextQualifying, List.find?_eq_none]
  simp only [sweepReads_iff, List.mem_finRange, true_imp_iff, not_exists]

theorem Resolver.inSweep_iff (r : Resolver) : r.inSweep = true ↔ r.state = .pending ∨ r.state = .sweeping := by
  simp only [Resolver.inSweep, Bool.or_eq_true, decide_eq_true_eq]

/-- When a sweep ends, in the statement's words. -/
theorem endSweep_test_iff (s : State) (x : Seg) :
    ((s.seg x).resolver.inSweep && !(s.seg x).resolver.outstanding &&
      (nextQualifying s x (s.seg x).resolver.cursor).isNone) = true ↔
    ((s.seg x).resolver.state = .pending ∨ (s.seg x).resolver.state = .sweeping) ∧
      (s.seg x).resolver.outstanding = false ∧ ¬ ∃ i, SweepReads s x (s.seg x).resolver.cursor i := by
  rw [Bool.and_eq_true, Bool.and_eq_true, Bool.not_eq_true', Resolver.inSweep_iff, nextQualifying_isNone_iff, and_assoc]

theorem endSweep_of_on {s : State} {x : Seg}
    (h : ¬ ((s.seg x).resolver.state = .pending ∨ (s.seg x).resolver.state = .sweeping) ∨
      (s.seg x).resolver.outstanding = true ∨ ∃ i, SweepReads s x (s.seg x).resolver.cursor i) : endSweep x s = s := by
  refine if_neg fun htest => ?_
  obtain ⟨hin, hout, hleft⟩ := (endSweep_test_iff s x).1 htest
  rcases h with h | h | h
  · exact h hin
  · rw [h] at hout
    cases hout
  · exact hleft h

/-- A part whose sweep of a segment has ended: HOLDOFF from the present tick, and UNRESOLVED for a low line on which nothing was
found (R164). -/
def sweepEnded (s : State) (x : Seg) (low found : Bool) : State :=
  { s.setSeg x { s.seg x with
      resolver := { (s.seg x).resolver with
        state := .holdoff, cursor := 0, found := false, holdStart := s.tick, holdLen := (s.seg x).cfg.holdoff } } with
    latched := if found = false ∧ low = true then s.latched ||| 0x0200 else s.latched }

theorem endSweep_of_over {s : State} {x : Seg}
    (hin : (s.seg x).resolver.state = .pending ∨ (s.seg x).resolver.state = .sweeping)
    (hout : (s.seg x).resolver.outstanding = false) (hleft : ¬ ∃ i, SweepReads s x (s.seg x).resolver.cursor i) :
    endSweep x s = sweepEnded s x (s.seg x).alertLow (s.seg x).resolver.found := by
  refine (if_pos ((endSweep_test_iff s x).2 ⟨hin, hout, hleft⟩)).trans ?_
  unfold sweepEnded
  by_cases hun : (s.seg x).resolver.found = false ∧ (s.seg x).alertLow = true
  · rw [if_pos hun, if_pos (by simpa using hun)]
    cases x <;> rfl
  · rw [if_neg hun, if_neg (by simpa using hun)]
    cases x <;> rfl

/-- When a resolver that looks at its line becomes PENDING, in the statement's words. -/
theorem looks_iff (g : Segment) :
    (g.watching && decide (g.resolver.state = .idle) && g.alertLow) = true ↔
      g.cfg.alertEnable = true ∧ g.state ≠ .disabled ∧ g.resolver.state = .idle ∧ g.alertLow = true := by
  rw [Bool.and_eq_true, Bool.and_eq_true, Segment.watching_iff, decide_eq_true_eq, and_assoc, and_assoc]

theorem lookAtLine_of_low {s : State} {x : Seg}
    (h : (s.seg x).cfg.alertEnable = true ∧ (s.seg x).state ≠ .disabled ∧ (s.seg x).resolver.state = .idle ∧
      (s.seg x).alertLow = true) : lookAtLine x s = endSweep x (setPending x s) := if_pos ((looks_iff _).2 h)

theorem sweepReads_setPending (s : State) (x : Seg) (cursor : Nat) (i : Fin 32) :
    SweepReads (setPending x s) x cursor i ↔ SweepReads s x cursor i := by
  have htarget : (setPending x s).target i = s.target i := State.target_setSeg ..
  unfold SweepReads
  rw [htarget]

/-- Becoming PENDING with a read outstanding or a target to read: the sweep goes on. -/
theorem endSweep_setPending_on {s : State} {x : Seg}
    (h : (s.seg x).resolver.outstanding = true ∨ ∃ i, SweepReads s x 0 i) :
    endSweep x (setPending x s) = setPending x s := by
  refine endSweep_of_on (.inr ?_)
  rw [seg_setPending]
  exact h.imp id fun ⟨i, hi⟩ => ⟨i, (sweepReads_setPending s x 0 i).2 hi⟩

/-- Becoming PENDING with nothing to read: the sweep ends at once. -/
theorem endSweep_setPending_over {s : State} {x : Seg} (hlow : (s.seg x).alertLow = true)
    (hout : (s.seg x).resolver.outstanding = false) (hleft : ¬ ∃ i, SweepReads s x 0 i) :
    endSweep x (setPending x s) = sweepEnded s x true false := by
  have hseg := seg_setPending x s
  rw [endSweep_of_over (by rw [hseg]; exact .inl rfl) (by rw [hseg]; exact hout)
    (by rw [hseg]; exact fun ⟨i, hi⟩ => hleft ⟨i, (sweepReads_setPending s x 0 i).1 hi⟩)]
  rw [hseg, hlow, sweepEnded, hseg]
  cases x <;> rfl

/-- Settles O41: a look at the line and the end of a sweep, by their tests. -/
theorem sweepsBeginAndEndByTheirTests : Obligations.SweepsBeginAndEndByTheirTests := by
  unfold Obligations.SweepsBeginAndEndByTheirTests
  refine fun x s => ⟨rfl, fun h => if_neg (mt (looks_iff _).1 h), fun h hon => ?_, fun h hout hleft => ?_,
    endSweep_of_on, endSweep_of_over⟩
  · exact (lookAtLine_of_low h).trans (endSweep_setPending_on hon)
  · exact (lookAtLine_of_low h).trans (endSweep_setPending_over h.2.2.2 hout hleft)

/-! ### Happenings of the resolvers (O42) -/

/-- When a holdoff has run out, in the statement's words. -/
theorem holdoffOver_iff (s : State) (r : Resolver) :
    (decide (r.state = .holdoff) && decide (r.holdLen.toNat ≤ elapsed r.holdStart s.tick)) = true ↔
      r.state = .holdoff ∧ r.holdLen.toNat ≤ (s.tick - r.holdStart).toNat := by
  rw [Bool.and_eq_true, decide_eq_true_eq, decide_eq_true_eq]
  rfl

theorem holdoffEnd_over {s : State} {x : Seg}
    (h : (s.seg x).resolver.state = .holdoff ∧
      (s.seg x).resolver.holdLen.toNat ≤ (s.tick - (s.seg x).resolver.holdStart).toNat) :
    holdoffEnd x s = some (if (s.seg x).alertLow then beginSweep x s
      else s.setSeg x { s.seg x with resolver := { (s.seg x).resolver with state := .idle } }) :=
  if_pos ((holdoffOver_iff s _).2 h)

theorem holdoffEnd_early {s : State} {x : Seg}
    (h : ¬ ((s.seg x).resolver.state = .holdoff ∧
      (s.seg x).resolver.holdLen.toNat ≤ (s.tick - (s.seg x).resolver.holdStart).toNat)) : holdoffEnd x s = none :=
  if_neg (mt (holdoffOver_iff s _).1 h)

theorem alertResult_cons {s : State} {x : Seg} {result : AlertResult} {rest : List AlertResult}
    (h : (s.seg x).alertResults = result :: rest) :
    alertResult x s = some (endSweep x (s.setSeg x { s.seg x with
      alertResults := rest
      resolver := if (s.seg x).resolver.outstanding then (s.seg x).resolver.told result else (s.seg x).resolver })) := by
  unfold alertResult
  dsimp only
  rw [h]

theorem alertResult_nil {s : State} {x : Seg} (h : (s.seg x).alertResults = []) : alertResult x s = none := by
  unfold alertResult
  dsimp only
  rw [h]

/-- Settles O42: each happening of a resolver by what it finds. -/
theorem alertHappeningsMoveTheResolver : Obligations.AlertHappeningsMoveTheResolver := by
  unfold Obligations.AlertHappeningsMoveTheResolver
  refine fun x s => ⟨fun low => rfl, fun hrst => ⟨fun h hlow => ?high, fun h hlow => ?low, fun h => ?early,
    fun result rest hr hout => ?awaited, fun result rest hr hout => ?unawaited, fun hr => ?none⟩⟩
  case high => rw [exec, execHoldoffEnd, holdoffEnd_over h, happen_some hrst, if_neg (Bool.eq_false_iff.1 hlow)]
  case low =>
    rw [exec, execHoldoffEnd, holdoffEnd_over h, happen_some hrst, if_pos hlow]
    rfl
  case early => rw [exec, execHoldoffEnd, holdoffEnd_early h, happen_none]
  case awaited =>
    rw [exec, execAlertResult, alertResult_cons hr, happen_some hrst, hout, if_pos rfl]
    rfl
  case unawaited => rw [exec, execAlertResult, alertResult_cons hr, happen_some hrst, hout, if_neg Bool.false_ne_true]
  case none => rw [exec, execAlertResult, alertResult_nil hr, happen_none]

/-! ### The candidates of a grant decision -/

theorem alertCandidate_eq_some_iff {s : State} {x : Seg} {i : Fin 32} : alertCandidate s x = some i ↔ NextAlert s x i := by
  have htest : ((s.seg x).resolver.inSweep && !(s.seg x).resolver.outstanding) = true ↔
      ((s.seg x).resolver.state = .pending ∨ (s.seg x).resolver.state = .sweeping) ∧
        (s.seg x).resolver.outstanding = false := by
    rw [Bool.and_eq_true, Resolver.inSweep_iff, Bool.not_eq_true']
  have hcand : alertCandidate s x =
      if ((s.seg x).resolver.inSweep && !(s.seg x).resolver.outstanding) = true
      then nextQualifying s x (s.seg x).resolver.cursor else none := rfl
  rw [hcand, Option.ite_none_right_eq_some, htest, nextQualifying_eq_some_iff, and_assoc]
  rfl

theorem alertCandidate_eq_none {s : State} {x : Seg} (h : ∀ j, ¬ NextAlert s x j) : alertCandidate s x = none :=
  Option.eq_none_iff_forall_ne_some.2 fun j hj => h j (alertCandidate_eq_some_iff.1 hj)

/-- How long ago a poll entry's next-due tick was. -/
def pollAge (s : State) (j : Fin 24) : Nat := (s.tick - (s.poll j).nextDue).toNat

theorem earlier_iff (s : State) (i j : Fin 24) : earlier s i j = true ↔ pollAge s j < pollAge s i := decide_eq_true_iff

/-- The first of an ascending list is of it, and comes before every other by age, then by index. -/
theorem earliest_first {s : State} {l : List (Fin 24)} (hl : l.Pairwise (· < ·)) {i : Fin 24} (h : earliest s l = some i) :
    i ∈ l ∧ ∀ j ∈ l, pollAge s j < pollAge s i ∨ (pollAge s j = pollAge s i ∧ i ≤ j) := by
  induction l generalizing i with
  | nil => cases h
  | cons k rest ih =>
    obtain ⟨hk, hrest⟩ := List.pairwise_cons.1 hl
    have hself : ∀ n : Fin 24, pollAge s n < pollAge s n ∨ (pollAge s n = pollAge s n ∧ n ≤ n) := fun n => .inr ⟨rfl, le_refl n⟩
    rw [earliest] at h
    cases he : earliest s rest with
    | none =>
      rw [he] at h
      cases h
      have hnil : rest = [] := by
        cases rest with
        | nil => rfl
        | cons m rest =>
          rw [earliest] at he
          split at he
          · split at he <;> cases he
          · cases he
      subst hnil
      exact ⟨List.mem_cons_self, fun j hj => by
        rw [List.mem_singleton.1 hj]
        exact hself k⟩
    | some m =>
      obtain ⟨hm, hfirst⟩ := ih hrest he
      rw [he] at h
      dsimp only at h
      split at h
      · next hearly =>
        cases h
        have hage := (earlier_iff s i k).1 hearly
        refine ⟨List.mem_cons_of_mem _ hm, fun j hj => ?_⟩
        rcases List.mem_cons.1 hj with rfl | hj
        · exact .inl hage
        · exact hfirst j hj
      · next hlate =>
        cases h
        have hage : pollAge s m ≤ pollAge s k := Nat.le_of_not_lt fun hlt => hlate ((earlier_iff s m k).2 hlt)
        refine ⟨List.mem_cons_self, fun j hj => ?_⟩
        rcases List.mem_cons.1 hj with rfl | hj
        · exact hself j
        · have hij : k ≤ j := le_of_lt (hk j hj)
          rcases hfirst j hj with hlt | ⟨heq, -⟩
          · exact .inl (Nat.lt_of_lt_of_le hlt hage)
          · rcases Nat.lt_or_eq_of_le hage with hlt | heq'
            · exact .inl (heq ▸ hlt)
            · exact .inr ⟨heq.trans heq', hij⟩

theorem earliest_isSome {s : State} {l : List (Fin 24)} (h : l ≠ []) : ∃ i, earliest s l = some i := by
  cases l with
  | nil => exact absurd rfl h
  | cons k rest =>
    rw [earliest]
    split
    · split <;> exact ⟨_, rfl⟩
    · exact ⟨_, rfl⟩

/-- Whether a poll entry is a candidate of a segment's arbiter, in the statement's words. -/
def PollDue (s : State) (x : Seg) (j : Fin 24) : Prop :=
  (s.poll j).enabled = true ∧ (s.target (s.poll j).cfg.target).cfg.segment = x ∧ (s.seg x).state ≠ .disabled ∧
    pollAge s j < 65536 ∧ (s.target (s.poll j).cfg.target).state ≠ .quarantined

theorem pollCandidate_iff (s : State) (x : Seg) (j : Fin 24) : pollCandidate s x j = true ↔ PollDue s x j := by
  have hq : (!pollQuarantined s (s.poll j)) = true ↔ (s.target (s.poll j).cfg.target).state ≠ .quarantined := by
    rw [Bool.not_eq_true', Bool.eq_false_iff, Ne, pollQuarantined_iff]
  rw [pollCandidate, due, Bool.and_eq_true, Bool.and_eq_true, Bool.and_eq_true, scheduled_iff, reached_iff, hq,
    decide_eq_true_eq]
  constructor
  · rintro ⟨⟨⟨⟨hen, hseg⟩, hage⟩, hnq⟩, rfl⟩
    exact ⟨hen, rfl, hseg, hage, hnq⟩
  · rintro ⟨hen, rfl, hseg, hage, hnq⟩
    exact ⟨⟨⟨⟨hen, hseg⟩, hage⟩, hnq⟩, rfl⟩

theorem mem_candidates {s : State} {x : Seg} {j : Fin 24} :
    j ∈ (List.finRange 24).filter (pollCandidate s x) ↔ PollDue s x j := by
  rw [List.mem_filter, pollCandidate_iff]
  exact and_iff_right (List.mem_finRange j)

theorem nextPoll_iff {s : State} {x : Seg} {i : Fin 24} : NextPoll s x i ↔ PollDue s x i ∧
    ∀ j, PollDue s x j → pollAge s j < pollAge s i ∨ (pollAge s j = pollAge s i ∧ i ≤ j) := Iff.rfl

/-- Only one entry comes before all others. -/
theorem NextPoll.unique {s : State} {x : Seg} {i j : Fin 24} (hi : NextPoll s x i) (hj : NextPoll s x j) : i = j := by
  obtain ⟨hdi, hi⟩ := nextPoll_iff.1 hi
  obtain ⟨hdj, hj⟩ := nextPoll_iff.1 hj
  have hij := hi j hdj
  have hji := hj i hdi
  omega

theorem bestPoll_eq_some_iff {s : State} {x : Seg} {i : Fin 24} : bestPoll s x = some i ↔ NextPoll s x i := by
  have hsorted : ((List.finRange 24).filter (pollCandidate s x)).Pairwise (· < ·) :=
    (List.pairwise_lt_finRange 24).filter _
  have hnext : ∀ {k}, bestPoll s x = some k → NextPoll s x k := fun h => by
    obtain ⟨hmem, hfirst⟩ := earliest_first hsorted h
    exact nextPoll_iff.2 ⟨mem_candidates.1 hmem, fun j hj => hfirst j (mem_candidates.2 hj)⟩
  refine ⟨hnext, fun h => ?_⟩
  obtain ⟨k, hk⟩ := earliest_isSome (s := s) (List.ne_nil_of_mem (mem_candidates.2 (nextPoll_iff.1 h).1))
  rw [h.unique (hnext hk)]
  exact hk

theorem bestPoll_eq_none {s : State} {x : Seg} (h : ∀ i, ¬ NextPoll s x i) : bestPoll s x = none :=
  Option.eq_none_iff_forall_ne_some.2 fun i hi => h i (bestPoll_eq_some_iff.1 hi)

theorem queueCandidate_of_queued {s : State} {x : Seg} {d : Descriptor} {rest : List Descriptor}
    (hq : (s.seg x).queue = d :: rest) (hd : d.state = .queued) : queueCandidate s x = some d := by
  unfold queueCandidate
  rw [hq]
  exact if_pos hd

theorem queueCandidate_eq_none {s : State} {x : Seg} (h : ∀ d rest, (s.seg x).queue = d :: rest → d.state ≠ .queued) :
    queueCandidate s x = none := by
  cases hc : queueCandidate s x with
  | none => rfl
  | some d =>
    obtain ⟨hd, rest, hq⟩ := queueCandidate_eq_some hc
    exact absurd hd (h d rest hq)

/-! ### Grants (O43, O44, O45) -/

theorem exec_grantDecision {s : State} {x : Seg} (hrst : s.rstnLow = false) (hr : (s.seg x).state = .ready) :
    exec (.grantDecision x) s = .next (
      match pick s x with
      | .nothing => s
      | .alert i => grantAlert s x i
      | .poll i => grantPoll s x i
      | .head d => grantHead s x d) := by
  rw [exec, execGrantDecision, grantDecision, if_pos hr]
  cases pick s x with
  | nothing => rw [happen_none]
  | _ => rw [happen_some hrst]

/-- Settles O43: the alert candidate is picked first. -/
theorem grantTakesAnAlertReadFirst : Obligations.GrantTakesAnAlertReadFirst := by
  unfold Obligations.GrantTakesAnAlertReadFirst
  intro x s i hrst hr hi
  have hpick : pick s x = .alert i := by rw [pick, alertCandidate_eq_some_iff.2 hi]
  rw [exec_grantDecision hrst hr, hpick]
  refine congrArg Host.Outcome.next (?_ : grantAlert s x i = _)
  rw [grantAlert, startItem, State.updSeg_eq, State.updSeg_eq, State.seg_setSeg_same, State.setSeg_setSeg]
  rfl

theorem pick_poll {s : State} {x : Seg} {i : Fin 24} (ha : ∀ j, ¬ NextAlert s x j) (hi : NextPoll s x i)
    (hq : ∀ d rest, (s.seg x).queue = d :: rest → d.state = .queued → (s.seg x).cfg.pollShare.toNat ≤ (s.seg x).streak) :
    pick s x = .poll i := by
  rw [pick, alertCandidate_eq_none ha, bestPoll_eq_some_iff.2 hi]
  cases hc : queueCandidate s x with
  | none => rfl
  | some d =>
    obtain ⟨hd, rest, hqueue⟩ := queueCandidate_eq_some hc
    exact if_pos (hq d rest hqueue hd)

/-- Settles O44: the earliest due poll is picked where no head goes first. -/
theorem grantTakesTheEarliestPoll : Obligations.GrantTakesTheEarliestPoll := by
  unfold Obligations.GrantTakesTheEarliestPoll
  intro x s i hrst hr ha hi hq
  rw [exec_grantDecision hrst hr, pick_poll ha hi hq]
  exact congrArg Host.Outcome.next (by cases x <;> rfl)

theorem pick_head {s : State} {x : Seg} {d : Descriptor} {rest : List Descriptor} (ha : ∀ j, ¬ NextAlert s x j)
    (hq : (s.seg x).queue = d :: rest) (hd : d.state = .queued)
    (hp : (∀ i, ¬ NextPoll s x i) ∨ (s.seg x).streak < (s.seg x).cfg.pollShare.toNat) : pick s x = .head d := by
  rw [pick, alertCandidate_eq_none ha, queueCandidate_of_queued hq hd]
  cases hb : bestPoll s x with
  | none => rfl
  | some i =>
    rcases hp with hp | hp
    · exact absurd (bestPoll_eq_some_iff.1 hb) (hp i)
    · exact if_neg (Nat.not_le.2 hp)

theorem pick_nothing {s : State} {x : Seg} (ha : ∀ j, ¬ NextAlert s x j) (hp : ∀ i, ¬ NextPoll s x i)
    (hq : ∀ d rest, (s.seg x).queue = d :: rest → d.state ≠ .queued) : pick s x = .nothing := by
  rw [pick, alertCandidate_eq_none ha, bestPoll_eq_none hp, queueCandidate_eq_none hq]

/-- Settles O45: the QUEUED head, by the state of its target, or nothing. -/
theorem grantTakesTheQueuedHead : Obligations.GrantTakesTheQueuedHead := by
  unfold Obligations.GrantTakesTheQueuedHead
  refine fun x s hrst => ⟨fun d rest hr ha hq hd hp => ?head, fun h => ?nothing⟩
  case head =>
    rw [exec_grantDecision hrst hr, pick_head ha hq hd hp]
    refine ⟨fun hquar => congrArg Host.Outcome.next ?_, fun hquar => congrArg Host.Outcome.next ?_⟩
    · show grantHead s x d = _
      rw [grantHead, if_pos hquar, State.updSeg_eq, hq]
      rfl
    · show grantHead s x d = _
      rw [grantHead, if_neg hquar, startItem, State.updSeg_eq, State.updSeg_eq, State.seg_setSeg_same, State.setSeg_setSeg, hq]
      rfl
  case nothing =>
    rcases h with hr | ⟨ha, hp, hq⟩
    · rw [exec, execGrantDecision, grantDecision, if_neg hr, happen_none]
    · by_cases hr : (s.seg x).state = .ready
      · rw [exec_grantDecision hrst hr, pick_nothing ha hp hq]
      · rw [exec, execGrantDecision, grantDecision, if_neg hr, happen_none]

end Sys2Proof.Machine
end

section
/-! SUPPORT. What the wires do to an item in the statements' words, and the item a row is taken of (5.2; log entry 13). -/

namespace Sys2Proof.Machine

section
variable {x : Seg} {s : State} {it it' : Item} {w : Wire}

/-! ### Wires of a segment with an item -/

theorem takeWire_of_wire (hit : (s.seg x).item = some it) (h : it.wire s.tick w = some it') :
    takeWire x w s = s.setSeg x { s.seg x with item := some it' } := by
  rw [takeWire, Segment.wire, hit]
  dsimp only
  rw [h]
  rfl

theorem takeWire_of_no_wire (hit : (s.seg x).item = some it) (h : it.wire s.tick w = none) : takeWire x w s = s := by
  rw [takeWire, Segment.wire, hit]
  dsimp only
  rw [h]
  rfl

end

section
variable {it it' : Item} {now : Tick}

theorem Item.wire_busFree (h : it.phase = .opening ∧ it.point = .free) :
    it.wire now .busFree = some { it with point := .condition } := by
  obtain ⟨hp, hf⟩ := h
  simp [Item.wire, hp, hf]

theorem Item.wire_busFree_none (h : ¬ (it.phase = .opening ∧ it.point = .free)) : it.wire now .busFree = none := by
  simpa [Item.wire] using h

/-- A record led to a phase has begun it. -/
theorem Item.settle_eq_toPhase (it : Item) (ph : Phase) (now : Tick) : { it with phase := ph }.settle now = it.toPhase ph now :=
  rfl

/-- What a condition made leads to: the first bits, or with a cut marked the closing stop. -/
theorem Item.wire_started (h : (it.phase = .opening ∨ it.phase = .restart) ∧ it.point = .condition ∧ it.hold = none) :
    it.wire now .started =
      some (if it.cut = true then it.toPhase (.stop (.ended .aborted)) now else { it with point := .bits }) := by
  obtain ⟨hp, hc, hh⟩ := h
  have hstands : (decide (it.phase = .opening) || decide (it.phase = .restart)) = true := by simpa using hp
  rw [Item.wire, hstands, hc, hh]
  rfl

theorem Item.wire_started_none (h : ¬ ((it.phase = .opening ∨ it.phase = .restart) ∧ it.point = .condition ∧ it.hold = none)) :
    it.wire now .started = none := by
  refine if_neg fun htest => h ?_
  simpa [and_assoc] using htest

theorem Item.wire_eighth (h : it.point = .bits ∧ it.hold = none ∧ it.storesByte = false) :
    it.wire now .eighth = some { it with point := .ninth } := by
  obtain ⟨hb, hh, hs⟩ := h
  simp [Item.wire, hb, hh, hs]

theorem Item.wire_eighth_none (h : ¬ (it.point = .bits ∧ it.hold = none ∧ it.storesByte = false)) :
    it.wire now .eighth = none := by
  refine if_neg fun htest => h ?_
  simpa [and_assoc] using htest

/-- A row of its own stores the data bytes of a descriptor. -/
theorem Item.storesByte_iff (it : Item) : it.storesByte = true ↔ (∃ total, it.phase = .dataIn total) ∧
    ∃ kind present index w r page, it.form = .descriptor kind present index w r page := by
  unfold Item.storesByte
  split
  · next total kind present index w r page hp hf => simp [hp, hf]
  · next h =>
    simp only [Bool.false_eq_true, false_iff, not_and, not_exists]
    intro ⟨total, hp⟩ kind present index w r page hf
    exact h total kind present index w r page hp hf

/-! ### What must have happened before a row (log entry 13) -/

theorem Item.onward_of_hold (h : it.hold ≠ none) : it.onward now = some { it with hold := none } := by
  rw [Item.onward, if_pos (Option.isSome_iff_ne_none.2 h), Item.wire]

theorem Item.onward_of_no_hold (h : it.hold = none) : it.onward now =
    match it.point with
    | .free => it.wire now .busFree
    | .condition => it.wire now .started
    | .bits => it.wire now .eighth
    | .ninth => none :=
  if_neg (by rw [h]; exact Bool.false_ne_true)

/-- The next of the happenings left unsaid, by where the item stands. -/
theorem Item.onward_eq (it : Item) (now : Tick) : it.onward now =
    if it.hold ≠ none then some { it with hold := none }
    else if it.phase = .opening ∧ it.point = .free then some { it with point := .condition }
    else if (it.phase = .opening ∨ it.phase = .restart) ∧ it.point = .condition then
      some (if it.cut = true then it.toPhase (.stop (.ended .aborted)) now else { it with point := .bits })
    else if it.point = .bits ∧ it.storesByte = false then some { it with point := .ninth } else none := by
  by_cases hh : it.hold = none
  · rw [Item.onward_of_no_hold hh, if_neg (not_not.2 hh)]
    cases hp : it.point with
    | free =>
      by_cases ho : it.phase = .opening
      · rw [if_pos ⟨ho, rfl⟩]
        exact Item.wire_busFree ⟨ho, hp⟩
      · rw [if_neg (fun h => ho h.1), if_neg (fun h => nomatch h.2), if_neg (fun h => nomatch h.1)]
        exact Item.wire_busFree_none fun h => ho h.1
    | condition =>
      rw [if_neg (fun h => nomatch h.2)]
      by_cases ho : it.phase = .opening ∨ it.phase = .restart
      · rw [if_pos ⟨ho, rfl⟩]
        exact Item.wire_started ⟨ho, hp, hh⟩
      · rw [if_neg (fun h => ho h.1), if_neg (fun h => nomatch h.1)]
        exact Item.wire_started_none fun h => ho h.1
    | bits =>
      rw [if_neg (fun h => nomatch h.2), if_neg (fun h => nomatch h.2)]
      by_cases hs : it.storesByte = false
      · rw [if_pos ⟨rfl, hs⟩]
        exact Item.wire_eighth ⟨hp, hh, hs⟩
      · rw [if_neg (fun h => hs h.2)]
        exact Item.wire_eighth_none fun h => hs h.2.2
    | ninth => rw [if_neg (fun h => nomatch h.2), if_neg (fun h => nomatch h.2), if_neg (fun h => nomatch h.1)]
  · rw [Item.onward_of_hold hh, if_pos hh]

/-- The happenings an item may still have before it: the end of its hold, and the points that follow. -/
def Item.toGo (it : Item) : Nat :=
  (if it.hold = none then 0 else 1) +
    match it.point with
    | .free => 3
    | .condition => if it.phase = .opening ∨ it.phase = .restart then 2 else 0
    | .bits => 1
    | .ninth => 0

theorem Item.toGo_le (it : Item) : it.toGo ≤ 4 := by
  unfold Item.toGo
  cases it.point <;> dsimp only <;> split_ifs <;> decide

/-- Each of them brings the item nearer. -/
theorem Item.onward_toGo (h : it.onward now = some it') : it'.toGo < it.toGo := by
  by_cases hh : it.hold = none
  · rw [Item.onward_of_no_hold hh] at h
    cases hp : it.point with
    | free =>
      rw [hp] at h
      have ho : it.phase = .opening := by
        by_contra hno
        rw [Item.wire_busFree_none fun h => hno h.1] at h
        cases h
      rw [Item.wire_busFree ⟨ho, hp⟩] at h
      cases h
      simp [Item.toGo, hh, hp, ho]
    | condition =>
      rw [hp] at h
      have ho : it.phase = .opening ∨ it.phase = .restart := by
        by_contra hno
        rw [Item.wire_started_none fun h => hno h.1] at h
        cases h
      rw [Item.wire_started ⟨ho, hp, hh⟩] at h
      cases h
      have hlong : it.toGo = 2 := by simp only [Item.toGo, hh, hp, if_true, if_pos ho, Nat.zero_add]
      rw [hlong]
      split
      · simp [Item.toGo, Item.toPhase, Phase.start]
      · simp [Item.toGo, hh]
    | bits =>
      rw [hp] at h
      have hs : it.storesByte = false := by
        by_contra hno
        rw [Item.wire_eighth_none fun h => hno h.2.2] at h
        cases h
      rw [Item.wire_eighth ⟨hp, hh, hs⟩] at h
      cases h
      simp [Item.toGo, hh, hp]
    | ninth =>
      rw [hp] at h
      cases h
  · rw [Item.onward_of_hold hh] at h
    cases h
    unfold Item.toGo
    rw [if_neg hh, if_pos rfl, Nat.zero_add]
    exact Nat.lt_add_of_pos_left Nat.one_pos

/-- With as many tries as an item has happenings before it, one more finds nothing new. -/
theorem Item.bring_succ (ready : Item → Bool) (now : Tick) : ∀ (n : Nat) (it : Item), it.toGo ≤ n →
    Item.bring ready now (n + 1) it = Item.bring ready now n it := by
  intro n
  induction n with
  | zero =>
    intro it hgo
    have hnone : it.onward now = none := by
      cases h : it.onward now with
      | none => rfl
      | some it' => exact absurd (Item.onward_toGo h) (by omega)
    rw [Item.bring, Item.bring, hnone]
    rfl
  | succ n ih =>
    intro it hgo
    rw [Item.bring, Item.bring]
    cases h : it.onward now with
    | none => rfl
    | some it' =>
      have hlt := Item.onward_toGo h
      show (if _ then _ else Item.bring ready now (n + 1) it') = if _ then _ else Item.bring ready now n it'
      rw [ih it' (by omega)]

/-- An item is brought on one happening after the other until the row is ready. -/
theorem Item.bringTo_eq (ready : Item → Bool) (now : Tick) (it : Item) : it.bringTo ready now =
    if ready it = true then some it else (it.onward now).bind (Item.bringTo ready now) := by
  show Item.bring ready now (3 + 1) it = _
  rw [Item.bring]
  cases h : it.onward now with
  | none => rfl
  | some it' =>
    have hlt := Item.onward_toGo h
    have hle := it.toGo_le
    show (if _ then _ else Item.bring ready now 3 it') = if _ then _ else Item.bring ready now 4 it'
    rw [Item.bring_succ ready now 3 it' (by omega)]

section
variable {ready : Item → Bool}

/-- A row that waits for the end of a hold is taken of the item as it stands after it. -/
theorem Item.bringTo_of_hold (h : it.hold ≠ none) (hready : ready it = false) :
    it.bringTo ready now = Item.bringTo ready now { it with hold := none } := by
  rw [Item.bringTo_eq, if_neg (Bool.eq_false_iff.1 hready), Item.onward_of_hold h]
  rfl

/-- A row that is ready but for a hold is taken of the item with its hold ended. -/
theorem Item.bringTo_unheld (hready : ready { it with hold := none } = true) (hnot : it.hold ≠ none → ready it = false) :
    it.bringTo ready now = some { it with hold := none } := by
  by_cases hh : it.hold = none
  · have hsame : { it with hold := none } = it := by rw [← hh]
    rw [hsame] at hready ⊢
    exact Item.bringTo_ready hready
  · rw [Item.bringTo_of_hold hh (hnot hh), Item.bringTo_ready hready]

/-- A row that is never ready of an item or of what it may become is not taken. -/
theorem Item.bringTo_eq_none {P : Item → Prop}
    (keep : ∀ {i i' : Item} {w : Wire}, i.wire now w = some i' → P i → P i') (never : ∀ i, P i → ready i = false) (hp : P it) :
    it.bringTo ready now = none := by
  cases h : it.bringTo ready now with
  | none => rfl
  | some it' =>
    obtain ⟨hp', hready⟩ := Item.bringTo_keeps keep h hp
    rw [never it' hp'] at hready
    cases hready

end
end

end Sys2Proof.Machine
end

section
/-! SUPPORT. Fault detections: the end of a faulted item, the times and places of the three rows, and the lines released where an
item stands (R77, R81, R84, R122, R124). -/

namespace Sys2Proof.Machine

/-! ### The end of a faulted item -/

/-- A fault ends a segment's item, and the segment's recovery begins. -/
theorem faultEnd_own {it : Item} (h : it.supplier ≠ .loader) {o : TxOutcome} (ho : o.isFault = true) (s : State) (x : Seg) :
    faultEnd s x it o = { s.setSeg x { (s.seg x).reported it o with
        state := stateAfterFault (s.seg x).state, recovery := some (recoveryBegun s.tick (s.seg x).cfg.stretch) } with
      latched := s.latched ||| (if x = Seg.a then 0x0400 else 0x0800) } := by
  obtain ⟨-, hcfg, -⟩ := handOut_frame (s.seg x) it o
  rw [handOut_eq_reported] at hcfg
  have hbegins : faultEnd s x it o = beginRecovery (closeItem s x it o) x := by
    unfold faultEnd
    split
    · contradiction
    · rfl
  rw [hbegins, closeItem_eq h, ho, SegState.afterTransaction_true, beginRecovery, State.updSeg_eq, State.setSeg_setSeg,
    State.seg_setSeg_same, State.setSeg_tick, ← hcfg]
  cases x <;> rfl

/-- A fault ends the loader's read with a report to the loader. -/
theorem faultEnd_loaderRead {it : Item} (h : it.supplier = .loader) (s : State) (x : Seg) (o : TxOutcome) :
    faultEnd s x it o = { s.setSeg x { s.seg x with item := none } with
      loader := { s.loader with report := some { outcome := o, second := it.second, bytes := it.bytes } } } := by
  rw [faultEnd_loader h, closeItem_loader h]

/-- What a fault leaves does not depend on how the item in flight stands. -/
theorem faultEnd_withItem (s : State) (x : Seg) (it : Item) (i : Option Item) {o : TxOutcome} (ho : o.isFault = true) :
    faultEnd (s.setSeg x { s.seg x with item := i }) x it o = faultEnd s x it o := by
  by_cases h : it.supplier = .loader
  · rw [faultEnd_loaderRead h, faultEnd_loaderRead h, State.setSeg_setSeg, State.seg_setSeg_same, State.setSeg_loader]
  · rw [faultEnd_own h ho, faultEnd_own h ho, State.setSeg_setSeg, State.seg_setSeg_same, State.setSeg_latched,
      State.setSeg_tick]
    rfl

/-! ### The times an item runs under -/

theorem itemConfig_busFree (g : Segment) (it : Item) :
    (itemConfig g it).busFree.toNat = if it.supplier = .loader then 35 else g.cfg.busFree.toNat := by
  unfold itemConfig
  split
  · next h => rw [if_pos h]; rfl
  · next h => rw [if_neg h]

theorem itemConfig_stretch (g : Segment) (it : Item) :
    (itemConfig g it).stretch.toNat = if it.supplier = .loader then 25 else g.cfg.stretch.toNat := by
  unfold itemConfig
  split
  · next h => rw [if_pos h]; rfl
  · next h => rw [if_neg h]

theorem itemConfig_retryGap (g : Segment) (it : Item) :
    (itemConfig g it).retryGap.toNat = if it.supplier = .loader then 2 else g.cfg.retryGap.toNat := by
  unfold itemConfig
  split
  · next h => rw [if_pos h]; rfl
  · next h => rw [if_neg h]

/-! ### The three rows -/

section
variable {x : Seg} {s : State} {it : Item} (hit : (s.seg x).item = some it)
include hit

theorem busFreeTimeout_eq :
    busFreeTimeout x s =
      if (it.phase = .opening ∧ it.point = .free) ∧
        (if it.supplier = .loader then 35 else (s.seg x).cfg.busFree.toNat) < (s.tick - it.since).toNat
      then some (faultEnd s x it .busFault) else none := by
  have htest : (decide (it.phase = .opening) && decide (it.point = .free) &&
      decide ((itemConfig (s.seg x) it).busFree.toNat < elapsed it.since s.tick)) = true ↔
      (it.phase = .opening ∧ it.point = .free) ∧
        (if it.supplier = .loader then 35 else (s.seg x).cfg.busFree.toNat) < (s.tick - it.since).toNat := by
    rw [itemConfig_busFree, Bool.and_eq_true, Bool.and_eq_true, decide_eq_true_eq, decide_eq_true_eq, decide_eq_true_eq]
    rfl
  unfold busFreeTimeout
  rw [hit]
  exact if_congr htest rfl rfl

theorem stretchTimeout_of_hold {since : Tick} (hh : it.hold = some since) :
    stretchTimeout x s =
      if (if it.supplier = .loader then 25 else (s.seg x).cfg.stretch.toNat) < (s.tick - since).toNat
      then some (faultEnd s x it .stretchTimeout) else none := by
  unfold stretchTimeout
  rw [hit]
  dsimp only
  rw [hh]
  dsimp only
  rw [itemConfig_stretch]
  rfl

theorem stretchTimeout_of_no_hold (hh : it.hold = none) : stretchTimeout x s = none := by
  unfold stretchTimeout
  rw [hit]
  dsimp only
  rw [hh]

theorem dataMismatch_eq :
    dataMismatch x s =
      (it.bringTo (Item.expectsHigh s.mem) s.tick).map fun it' => faultEnd s x it' .busFault := by
  rw [dataMismatch, hit]
  rfl

end

/-! ### Where a hold and a mismatch may come -/

/-- Where the engine gives clock pulses, in the statement's words. -/
theorem Item.clocked_iff (it : Item) : it.clocked = true ↔
    it.point = .bits ∨ it.point = .ninth ∨ (it.point = .condition ∧ it.phase ≠ .opening) := by
  unfold Item.clocked
  cases it.point <;> simp

theorem Item.wire_held {it : Item} {now : Tick} (hh : it.hold = none) (hc : it.clocked = true) :
    it.wire now .held = some { it with hold := some now } := by simp [Item.wire, hh, hc]

theorem Item.wire_held_none {it : Item} {now : Tick} (h : it.hold ≠ none ∨ it.clocked = false) : it.wire now .held = none := by
  rcases h with h | h <;> simp [Item.wire, h]

section
variable {m : Memory} {it : Item}

theorem mismatchPossible_free (h : it.point = .free) : mismatchPossible m it = false := by rw [mismatchPossible, h]

theorem mismatchPossible_condition (h : it.point = .condition) : mismatchPossible m it = true ↔ it.phase ≠ .opening := by
  rw [mismatchPossible, h]
  exact decide_eq_true_iff

theorem mismatchPossible_bits (h : it.point = .bits) :
    mismatchPossible m it = true ↔ ∃ b, byteSent m it = some b ∧ b ≠ 0 := by
  rw [mismatchPossible, h]
  cases hb : byteSent m it with
  | none => simp
  | some b => simp

theorem mismatchPossible_ninth (h : it.point = .ninth) : mismatchPossible m it = true ↔ it.answer 0 = some false := by
  rw [mismatchPossible, h]
  exact decide_eq_true_iff

/-- A length byte of 0 is not accepted. -/
theorem lengthAccepted_zero (p : Plan) : lengthAccepted p 0 = false := by
  unfold lengthAccepted
  split <;> rfl

theorem Item.answer_lengthByte (hn : it.point = .ninth) (hp : it.phase = .lengthByte) (byte : Byte) :
    it.answer byte = some (lengthAccepted it.plan byte && (!it.cut || it.cutLate)) := by
  rw [Item.answer, hn, hp]

theorem Item.answer_dataIn {total : Nat} (hn : it.point = .ninth) (hp : it.phase = .dataIn total) {kind : Kind}
    {present : Bool} {index : Word} {w r : Nat} {page : Option (Fin 32)}
    (hf : it.form = .descriptor kind present index w r page) (byte : Byte) :
    it.answer byte = some (decide (it.readCount < total) && (!it.cut || it.cutLate)) := by
  rw [Item.answer, hn, hp]
  dsimp only
  rw [hf]

theorem Item.answer_dataIn_own {total : Nat} (hn : it.point = .ninth) (hp : it.phase = .dataIn total)
    (hf : ∀ kind present index w r page, it.form ≠ .descriptor kind present index w r page) (byte : Byte) :
    it.answer byte = some (decide (it.bytes.length + 1 < total)) := by
  rw [Item.answer, hn, hp]
  dsimp only
  cases h : it.form with
  | descriptor kind present index w r page => exact absurd h (hf kind present index w r page)
  | _ => rfl

theorem Item.answer_none (hl : it.phase ≠ .lengthByte) (hd : ∀ total, it.phase ≠ .dataIn total) (byte : Byte) :
    it.answer byte = none := by
  unfold Item.answer
  dsimp only
  split
  · next h => exact absurd h hl
  · next h => exact absurd h (hd _)
  · rfl

end

/-! ### The lines (R77 to R83, R90) -/

theorem linesReleased_of_item {s : State} {x : Seg} {it : Item} (hrst : s.rstnLow = false) (hit : (s.seg x).item = some it)
    (hr : (s.seg x).recovery = none) : linesReleased s x = it.linesReleased := by
  rw [linesReleased, hrst, hit, hr]
  simp

theorem Item.linesReleased_off {it : Item} (h : it.offWires = true) : it.linesReleased = true := by
  rw [Item.linesReleased, h, Bool.true_or]

theorem Item.linesReleased_hold {it : Item} (h : it.hold ≠ none) (hd : it.dataReleased = true) : it.linesReleased = true := by
  rw [Item.linesReleased, decide_eq_true h, hd, Bool.and_self, Bool.or_true]

/-- Settles O46: each fault by its test, the bus-free check and the holds by the wires, and the lines by the point. -/
theorem faultsEndTheItemAndBeginRecovery : Obligations.FaultsEndTheItemAndBeginRecovery := by
  unfold Obligations.FaultsEndTheItemAndBeginRecovery
  intro x s it hrst hit g busFree stretch checking clocked becomes faulted ready
  have hfault : ∀ {c : Instr} {taken : State → Option State} {o : TxOutcome}, o.isFault = true →
      (exec c s = .next (happen s (taken s))) → taken s = some (faultEnd s x it o) → faulted c o := fun ho hc ht => by
    rw [ht, happen_some hrst] at hc
    exact ⟨fun hown => hc.trans (congrArg _ (faultEnd_own hown ho s x)),
      fun hload => hc.trans (congrArg _ (faultEnd_loaderRead hload s x _))⟩
  have hidle : ∀ {c : Instr} {taken : State → Option State}, (exec c s = .next (happen s (taken s))) → taken s = none →
      exec c s = .next s := fun hc ht => by rw [hc, ht, happen_none]
  have hlines : g.recovery = none → linesReleased s x = it.linesReleased := linesReleased_of_item hrst hit
  have hclocked := it.clocked_iff
  refine ⟨fun hc => ⟨fun ht => ?busFree, fun ht => ?early, takeWire_of_wire hit (Item.wire_busFree hc)⟩,
    fun hc => ⟨?notChecking, takeWire_of_no_wire hit (Item.wire_busFree_none hc)⟩,
    fun since hh => ⟨fun ht => ?stretch, fun ht => ?inTime, takeWire_of_no_wire hit (Item.wire_held_none (.inl ?held))⟩,
    takeWire_of_wire hit rfl,
    fun hh => ⟨?noHold, fun hc => takeWire_of_wire hit (Item.wire_held hh (hclocked.2 hc)),
      fun hc => takeWire_of_no_wire hit (Item.wire_held_none (.inr (Bool.eq_false_iff.2 (mt hclocked.1 hc)))), fun hm => ?mismatch⟩,
    fun hr => ⟨fun h => ?off, fun hh hp => ⟨fun h => ?restart, fun ⟨c, h⟩ => ?stop⟩, fun hh hp h => ?received, fun hh hp h => ?sent⟩,
    fun it' hb => ?brought, fun hb => ?never,
    mismatchPossible_free, mismatchPossible_condition, mismatchPossible_bits,
    fun hn => ⟨fun hp => ?length, fun total hp => ⟨fun kind present index w r page hf => ?data, fun hf => ?own⟩, fun hl hd => ?other⟩⟩
  case busFree => exact hfault rfl (taken := busFreeTimeout x) rfl (by rw [busFreeTimeout_eq hit, if_pos ⟨hc, ht⟩])
  case early =>
    exact hidle (taken := busFreeTimeout x) rfl (by rw [busFreeTimeout_eq hit, if_neg fun h => absurd h.2 (Nat.not_lt.2 ht)])
  case notChecking => exact hidle (taken := busFreeTimeout x) rfl (by rw [busFreeTimeout_eq hit, if_neg fun h => hc h.1])
  case stretch => exact hfault rfl (taken := stretchTimeout x) rfl (by rw [stretchTimeout_of_hold hit hh, if_pos ht])
  case inTime =>
    exact hidle (taken := stretchTimeout x) rfl (by rw [stretchTimeout_of_hold hit hh, if_neg (Nat.not_lt.2 ht)])
  case held => rw [hh]; exact Option.some_ne_none _
  case noHold => exact hidle (taken := stretchTimeout x) rfl (stretchTimeout_of_no_hold hit hh)
  case mismatch =>
    have hready : Item.expectsHigh s.mem it = true := by rw [Item.expectsHigh, hm, hh]; rfl
    exact hfault rfl (taken := dataMismatch x) rfl (by rw [dataMismatch_eq hit, Item.bringTo_ready hready]; rfl)
  case off => rw [hlines hr, Item.linesReleased_off (it.offWires_iff.2 h)]
  case restart => rw [hlines hr, Item.linesReleased_hold hh (by simp [Item.dataReleased, hp, h])]
  case stop => simp [hlines hr, Item.linesReleased, Item.offWires, Item.dataReleased, hp, h]
  case received =>
    rw [hlines hr, Item.linesReleased_hold hh]
    rcases h with h | ⟨n, h⟩ <;> rw [Item.dataReleased, hp, h]
  case sent =>
    rw [hlines hr, Item.linesReleased_hold hh]
    rcases h with h | h | ⟨k, h⟩ | h <;> rw [Item.dataReleased, hp, h] <;> rfl
  case brought =>
    have hready : ready it' = true := (Item.bringTo_keeps (P := fun _ => True) (fun _ h => h) hb trivial).2
    have hown : (becomes it').seg x = { g with item := some it' } := State.seg_setSeg_same ..
    have hbecomes : dataMismatch x (becomes it') = some (faultEnd (becomes it') x it' .busFault) := by
      rw [dataMismatch_eq (it := it') (by rw [hown])]
      rw [Item.bringTo_ready (by rw [State.setSeg_mem]; exact hready)]
      rfl
    have hs : dataMismatch x s = some (faultEnd s x it' .busFault) := by
      rw [dataMismatch_eq hit]
      exact congrArg (Option.map _) hb
    rw [exec, exec, execDataMismatch, execDataMismatch, hs, hbecomes, happen_some hrst,
      happen_some (by rw [State.setSeg_rstnLow]; exact hrst), faultEnd_withItem s x it' _ rfl]
  case never => exact hidle (taken := dataMismatch x) rfl (by rw [dataMismatch_eq hit]; exact congrArg (Option.map _) hb)
  case length => rw [mismatchPossible_ninth hn, Item.answer_lengthByte hn hp, lengthAccepted_zero, Bool.false_and]
  case data =>
    rw [mismatchPossible_ninth hn, Item.answer_dataIn hn hp hf, Option.some_inj, Bool.and_eq_false_iff,
      decide_eq_false_iff_not, Nat.not_lt, Bool.or_eq_false_iff, Bool.not_eq_false']
  case own =>
    rw [mismatchPossible_ninth hn, Item.answer_dataIn_own hn hp hf, Option.some_inj, decide_eq_false_iff_not, Nat.not_lt]
  case other => rw [Bool.eq_false_iff, Ne, mismatchPossible_ninth hn, Item.answer_none hl hd]; exact Option.some_ne_none _ ∘ Eq.symm

end Sys2Proof.Machine
end

section
/-! SUPPORT. The ends of bytes sent, by the target's answer (5.2 to 5.4, Table 5-7), and the phases and bytes of each form of
work (Table 5-4). -/

namespace Sys2Proof.Machine

/-! ### The end of a byte -/

theorem Segment.reportPresence_eq_sent (g : Segment) (it : Item) : g.reportPresence it = g.presenceSent it := by
  unfold Segment.reportPresence Segment.presenceSent Segment.report
  cases it.detached <;> cases it.target <;> rfl

theorem Phase.hasByte_iff (ph : Phase) : ph.hasByte = true ↔ ph ≠ .gap ∧ ∀ c, ph ≠ .stop c := by
  cases ph <;> simp [Phase.hasByte]

theorem Item.byteEnd_isSome {it : Item} {ack : Bool} {byte : Byte} (h : it.phase.hasByte = true) :
    (it.byteEnd ack byte).isSome = true := by
  unfold Item.byteEnd
  dsimp only
  cases hp : it.phase with
  | stop c => rw [hp] at h; cases h
  | gap => rw [hp] at h; cases h
  | dataIn total => cases it.form <;> dsimp only <;> split_ifs <;> rfl
  | _ => dsimp only; split_ifs <;> rfl

section
variable {x : Seg} {s : State} {it : Item} {ack : Bool} {byte : Byte}

/-- A byte's end is taken of the item brought to its ninth bit. -/
theorem byteEnd_eq (hit : (s.seg x).item = some it) (ack : Bool) (byte : Byte) :
    byteEnd x ack byte s = (it.bringTo Item.atNinth s.tick).bind fun i => (i.byteEnd ack byte).map fun e =>
      s.setSeg x (if e.2 = true then Segment.presenceSent { s.seg x with item := some (e.1.settle s.tick) } i
        else { s.seg x with item := some (e.1.settle s.tick) }) := by
  unfold byteEnd
  rw [hit]
  show (match it.bringTo Item.atNinth s.tick with | some i => _ | none => none) = _
  cases it.bringTo Item.atNinth s.tick with
  | none => rfl
  | some i =>
    dsimp only [Option.bind_some]
    cases i.byteEnd ack byte with
    | none => rfl
    | some e => simp only [Segment.reportPresence_eq_sent, State.updSeg_eq, Option.map_some]

theorem Item.atNinth_iff (it : Item) :
    it.atNinth = true ↔ it.hold = none ∧ it.point = .ninth ∧ it.phase.hasByte = true := by
  rw [Item.atNinth, Bool.and_eq_true, Bool.and_eq_true, decide_eq_true_eq, decide_eq_true_eq, and_assoc]

section
variable (hrst : s.rstnLow = false) (hit : (s.seg x).item = some it) (hn : it.point = .ninth) (hh : it.hold = none)
include hrst hit hn hh

/-- A byte that ends without a presence report leads to the next record. -/
theorem exec_byteEnd {it' : Item} (hb : it.phase.hasByte = true) (he : it.byteEnd ack byte = some (it', false)) :
    exec (.byteEnd x ack byte) s = .next (s.setSeg x { s.seg x with item := some (it'.settle s.tick) }) := by
  rw [exec, execByteEnd, byteEnd_eq hit, Item.bringTo_ready (it.atNinth_iff.2 ⟨hh, hn, hb⟩), Option.bind_some, he,
    Option.map_some, happen_some hrst, if_neg Bool.false_ne_true]

/-- An address acknowledged leads to the next record, and sends its presence report. -/
theorem exec_byteEnd_seen {it' : Item} (hb : it.phase.hasByte = true) (he : it.byteEnd ack byte = some (it', true)) :
    exec (.byteEnd x ack byte) s =
      .next (s.setSeg x (Segment.presenceSent { s.seg x with item := some (it'.settle s.tick) } it)) := by
  rw [exec, execByteEnd, byteEnd_eq hit, Item.bringTo_ready (it.atNinth_iff.2 ⟨hh, hn, hb⟩), Option.bind_some, he,
    Option.map_some, happen_some hrst, if_pos rfl]

end

theorem exec_byteEnd_never (hit : (s.seg x).item = some it) (hb : it.bringTo Item.atNinth s.tick = none) :
    exec (.byteEnd x ack byte) s = .next s := by
  rw [exec, execByteEnd, byteEnd_eq hit, hb, Option.bind_none, happen_none]

/-- A byte that ends later ends as that of the item it is brought to. -/
theorem exec_byteEnd_brought (hrst : s.rstnLow = false) (hit : (s.seg x).item = some it) {it' : Item}
    (hb : it.bringTo Item.atNinth s.tick = some it') :
    exec (.byteEnd x ack byte) s = exec (.byteEnd x ack byte) (s.setSeg x { s.seg x with item := some it' }) := by
  have hready : it'.atNinth = true := (Item.bringTo_keeps (P := fun _ => True) (fun _ h => h) hb trivial).2
  have hown : ((s.setSeg x { s.seg x with item := some it' }).seg x).item = some it' := by rw [State.seg_setSeg_same]
  rw [exec, exec, execByteEnd, execByteEnd, byteEnd_eq hit, byteEnd_eq hown, hb, Item.bringTo_ready hready, Option.bind_some,
    Option.bind_some]
  obtain ⟨e, he⟩ := Option.isSome_iff_exists.1 (Item.byteEnd_isSome (ack := ack) (byte := byte) (it'.atNinth_iff.1 hready).2.2)
  rw [he, Option.map_some, Option.map_some, happen_some hrst, happen_some (by rw [State.setSeg_rstnLow]; exact hrst),
    State.setSeg_setSeg, State.seg_setSeg_same, State.setSeg_tick]

end

/-! ### Bytes sent, by their answer -/

section
variable {it : Item} {byte : Byte}

theorem Item.byteEnd_opening_ack {ack : Bool} (hp : it.phase = .opening) (ha : ack = true) :
    it.byteEnd ack byte = some ({ it with phase := it.orCut it.plan.afterAddress }, true) := by
  rw [Item.byteEnd, hp, ha]; rfl

theorem Item.byteEnd_opening_nack {ack : Bool} (hp : it.phase = .opening) (ha : ack = false) :
    it.byteEnd ack byte = some ({ it with
      phase := it.orCut (if it.attempts ≤ it.retryLimit.toNat then .stop .retry else .stop (.ended .nackAddress)) }, false) := by
  have hleft : it.attempts < 1 + it.retryLimit.toNat ↔ it.attempts ≤ it.retryLimit.toNat := by omega
  rw [Item.byteEnd, hp, ha]
  simp only [Bool.false_eq_true, if_false, hleft, Item.orCut]
  split_ifs <;> rfl

theorem Item.byteEnd_restart_ack {ack : Bool} (hp : it.phase = .restart) (ha : ack = true) :
    it.byteEnd ack byte = some ({ it with phase := it.orCut it.plan.beginRead }, true) := by
  rw [Item.byteEnd, hp, ha]; rfl

theorem Item.byteEnd_restart_nack {ack : Bool} (hp : it.phase = .restart) (ha : ack = false) :
    it.byteEnd ack byte = some ({ it with phase := it.orCut (.stop (.ended .nackAddress)) }, false) := by
  rw [Item.byteEnd, hp, ha]; rfl

theorem Item.byteEnd_index {k : Nat} (hp : it.phase = .index k) (ack : Bool) :
    it.byteEnd ack byte = some ({ it with
      phase := it.orCut (if ack = false then .stop (.ended .nackData)
        else if k + 1 < it.plan.index.length then .index (k + 1) else it.plan.afterIndex) }, false) := by
  rw [Item.byteEnd, hp]
  cases ack <;> rfl

theorem Item.byteEnd_dataOut_ack {ack : Bool} (hp : it.phase = .dataOut) (ha : ack = true) :
    it.byteEnd ack byte = some ({ it with
      writeCount := it.writeCount + 1
      phase := it.orCut (if it.writeCount + 1 < it.plan.out then .dataOut else it.plan.afterOut) }, false) := by
  rw [Item.byteEnd, hp, ha]; rfl

theorem Item.byteEnd_dataOut_nack {ack : Bool} (hp : it.phase = .dataOut) (ha : ack = false) :
    it.byteEnd ack byte = some ({ it with phase := it.orCut (.stop (.ended .nackData)) }, false) := by
  rw [Item.byteEnd, hp, ha]; rfl

end

/-- Settles O47: the condition made, the eighth bit, the happenings left unsaid, and the end of each byte sent. -/
theorem sentBytesGoOnByTheirAnswer : Obligations.SentBytesGoOnByTheirAnswer := by
  unfold Obligations.SentBytesGoOnByTheirAnswer
  intro x ack byte s it hrst hit g p making atNinth stored goes goesSeen
  have hstored : it.storesByte = true ↔ stored := it.storesByte_iff
  refine ⟨fun h => takeWire_of_wire hit (Item.wire_started h), fun h => takeWire_of_no_wire hit (Item.wire_started_none h),
    fun ⟨hb, hh, hs⟩ => takeWire_of_wire hit (Item.wire_eighth ⟨hb, hh, Bool.eq_false_iff.2 (mt hstored.1 hs)⟩),
    fun h => takeWire_of_no_wire hit (Item.wire_eighth_none fun ⟨hb, hh, hs⟩ =>
      h ⟨hb, hh, fun hst => Bool.eq_false_iff.1 hs (hstored.2 hst)⟩),
    it.onward_eq s.tick, ⟨rfl, rfl, rfl, fun _ => rfl, fun _ => rfl, rfl, rfl, fun _ => rfl⟩, hstored, it.phase.hasByte_iff,
    fun ready => it.bringTo_eq ready s.tick, fun it' hb => exec_byteEnd_brought hrst hit hb, exec_byteEnd_never hit,
    fun hn hh => ⟨fun hp => ⟨fun ha => ?_, fun ha => ?_⟩, fun hp => ⟨fun ha => ?_, fun ha => ?_⟩, fun k hp => ?_,
      fun hp => ⟨fun ha => ?_, fun ha => ?_⟩⟩⟩
  all_goals
    have hbyte : it.phase.hasByte = true := by rw [hp]; rfl
  · exact exec_byteEnd_seen hrst hit hn hh hbyte (Item.byteEnd_opening_ack hp ha)
  · exact exec_byteEnd hrst hit hn hh hbyte (Item.byteEnd_opening_nack hp ha)
  · exact exec_byteEnd_seen hrst hit hn hh hbyte (Item.byteEnd_restart_ack hp ha)
  · exact exec_byteEnd hrst hit hn hh hbyte (Item.byteEnd_restart_nack hp ha)
  · exact exec_byteEnd hrst hit hn hh hbyte (Item.byteEnd_index hp ack)
  · exact exec_byteEnd hrst hit hn hh hbyte (Item.byteEnd_dataOut_ack hp ha)
  · exact exec_byteEnd hrst hit hn hh hbyte (Item.byteEnd_dataOut_nack hp ha)

end Sys2Proof.Machine
end

section
/-! SUPPORT. The phases and bytes of each form of work (Table 5-4) and bytes received (4.3, 5.5). -/

namespace Sys2Proof.Machine

/-! ### Plans (O48) -/

section
variable {it : Item}

/-- The plan of a descriptor (Table 5-4). -/
theorem Item.plan_descriptor {kind : Kind} {present : Bool} {index : Word} {w r : Nat} {page : Option (Fin 32)}
    (h : it.form = .descriptor kind present index w r page) :
    it.plan = { index := if present then indexBytes it.width index else [], out := kind.sends w, read := kind.reads r } := by
  rw [Item.plan, h]

/-- The plan of a read of an engine's own (R88, R182). -/
theorem Item.plan_own {index : Word} {n : Nat}
    (h : (∃ width, it.form = .pollRead index width ∧ n = width.toNat) ∨ (it.form = .alertRead index ∧ n = 1) ∨
      (it.form = .loaderRead index ∧ n = 16)) :
    it.plan = { index := indexBytes it.width index, out := 0, read := .fixed n } := by
  rcases h with ⟨width, h, rfl⟩ | ⟨h, rfl⟩ | ⟨h, rfl⟩ <;> rw [Item.plan, h]

theorem indexBytes_zero (index : Word) : indexBytes 0 index = [] := rfl

theorem indexBytes_one (index : Word) : indexBytes 1 index = [index.setWidth 8] := rfl

theorem indexBytes_two (index : Word) : indexBytes 2 index = [index.extractLsb' 8 8, index.setWidth 8] := rfl

theorem indexBytes_ne_nil {width : BitVec 2} (h : width = 1 ∨ width = 2) (index : Word) : indexBytes width index ≠ [] := by
  rcases h with rfl | rfl
  · rw [indexBytes_one]; exact List.cons_ne_nil _ _
  · rw [indexBytes_two]; exact List.cons_ne_nil _ _

end

section
variable {p : Plan}

theorem Plan.afterAddress_index (h : p.index ≠ []) : p.afterAddress = .index 0 := if_pos h

theorem Plan.afterAddress_out (h : p.index = []) (ho : p.out ≠ 0) : p.afterAddress = .dataOut := by
  rw [Plan.afterAddress, if_neg (not_not.2 h), if_pos ho]

theorem Plan.afterAddress_read (h : p.index = []) (ho : p.out = 0) : p.afterAddress = p.beginRead := by
  rw [Plan.afterAddress, if_neg (not_not.2 h), if_neg (not_not.2 ho)]

theorem Plan.afterIndex_out (h : p.out ≠ 0) : p.afterIndex = .dataOut := if_pos h

theorem Plan.afterIndex_read (h : p.out = 0) (hr : p.read ≠ .nothing) : p.afterIndex = .restart := by
  rw [Plan.afterIndex, if_neg (not_not.2 h), Plan.afterOut, if_neg hr]

theorem Plan.writesFirst_eq_false_iff : p.writesFirst = false ↔ p.index = [] ∧ p.out = 0 ∧ p.read ≠ .nothing := by
  simp [Plan.writesFirst, and_assoc]

end

theorem addressByte_eq (address : BitVec 7) (writes : Bool) :
    addressByte address (!writes) = address ++ (if writes = true then 0#1 else 1#1) := by cases writes <;> rfl

/-- The byte sent, by the phase. -/
theorem byteSent_cases (m : Memory) (it : Item) :
    (it.phase = .opening → byteSent m it = some (it.address ++ (if it.plan.writesFirst = true then 0#1 else 1#1))) ∧
    (it.phase = .restart → byteSent m it = some (it.address ++ 1#1)) ∧
    (∀ k, it.phase = .index k → byteSent m it = it.plan.index[k]?) ∧
    (∀ kind present index w r page, it.phase = .dataOut → it.form = .descriptor kind present index w r (some page) →
      byteSent m it = some (m.read (page.val * 64 + it.writeCount % 64))) ∧
    (it.phase = .lengthByte ∨ it.phase = .gap ∨ (∃ n, it.phase = .dataIn n) ∨ (∃ c, it.phase = .stop c) →
      byteSent m it = none) := by
  refine ⟨fun hp => ?_, fun hp => ?_, fun k hp => ?_, fun kind present index w r page hp hf => ?_, fun hp => ?_⟩
  · rw [byteSent, hp]
    exact congrArg some (addressByte_eq ..)
  · rw [byteSent, hp]
    rfl
  · rw [byteSent, hp]
  · rw [byteSent, hp]
    dsimp only
    rw [hf]
    rfl
  · rcases hp with hp | hp | ⟨n, hp⟩ | ⟨c, hp⟩ <;> rw [byteSent, hp]

/-- The phases of an engine's own read. -/
theorem ownRead_phases {it : Item} {index : Word} {n : Nat}
    (h : (∃ width, it.form = .pollRead index width ∧ n = width.toNat) ∨ (it.form = .alertRead index ∧ n = 1) ∨
      (it.form = .loaderRead index ∧ n = 16)) :
    it.plan.out = 0 ∧
    (it.width = 0 → it.plan.index = [] ∧ it.plan.afterAddress = .dataIn n ∧ it.plan.writesFirst = false) ∧
    (it.width = 1 → it.plan.index = [index.setWidth 8]) ∧
    (it.width = 2 → it.plan.index = [index.extractLsb' 8 8, index.setWidth 8]) ∧
    (it.width = 1 ∨ it.width = 2 →
      it.plan.afterAddress = .index 0 ∧ it.plan.afterIndex = .restart ∧ it.plan.writesFirst = true) ∧
    it.plan.beginRead = .dataIn n := by
  have hp := Item.plan_own h
  have hout : it.plan.out = 0 := by rw [hp]
  have hread : it.plan.read ≠ .nothing := by rw [hp]; exact ReadPlan.noConfusion
  have hbegin : it.plan.beginRead = .dataIn n := by rw [hp, Plan.beginRead]
  have hindex : it.plan.index = indexBytes it.width index := by rw [hp]
  refine ⟨hout, fun hw => ?_, fun hw => by rw [hindex, hw, indexBytes_one], fun hw => by rw [hindex, hw, indexBytes_two],
    fun hw => ?_, hbegin⟩
  · have hnil : it.plan.index = [] := by rw [hindex, hw, indexBytes_zero]
    exact ⟨hnil, (Plan.afterAddress_read hnil hout).trans hbegin, Plan.writesFirst_eq_false_iff.2 ⟨hnil, hout, hread⟩⟩
  · have hsome : it.plan.index ≠ [] := hindex ▸ indexBytes_ne_nil hw index
    refine ⟨Plan.afterAddress_index hsome, Plan.afterIndex_read hout hread, Bool.eq_true_of_not_eq_false fun hf => ?_⟩
    exact hsome (Plan.writesFirst_eq_false_iff.1 hf).1

/-- Whether a kind sends data: its row of Table 2-2 asks for a write length then. -/
theorem Kind.sends_eq_zero_iff {kind : Kind} {w r : Nat} (h : LengthRow kind w r) :
    kind.sends w = 0 ↔ ¬ (kind = .write ∨ kind = .writeRead) := by
  cases kind with
  | write => simp [Kind.sends, Nat.ne_of_gt h.1.1]
  | writeRead => simp [Kind.sends, Nat.ne_of_gt h.1.1]
  | _ => simp [Kind.sends]

/-- Settles O48: the byte of each phase, and the plans of an engine's own read and of a descriptor. -/
theorem phasesFollowTheKind : Obligations.PhasesFollowTheKind := by
  unfold Obligations.PhasesFollowTheKind
  refine ⟨byteSent_cases, fun it index n => ownRead_phases, fun it kind present index w r page hf hrow hprobe hwidth => ?_⟩
  have hp := Item.plan_descriptor hf
  have hindex : it.plan.index = if present then indexBytes it.width index else [] := by rw [hp]
  have hout : it.plan.out = kind.sends w := by rw [hp]
  have hread : it.plan.read = kind.reads r := by rw [hp]
  have hsends : it.plan.out = 0 ↔ ¬ (kind = .write ∨ kind = .writeRead) := hout ▸ Kind.sends_eq_zero_iff hrow
  have hsome : present = true → it.plan.index ≠ [] := fun h => by
    rw [hindex, if_pos h]
    exact indexBytes_ne_nil (hwidth h) index
  have hnil : present = false → it.plan.index = [] := fun h => by rw [hindex, h]; rfl
  refine ⟨fun h hw => by rw [hindex, if_pos h, hw, indexBytes_one], fun h hw => by rw [hindex, if_pos h, hw, indexBytes_two],
    hnil, ?address, fun h => ?index, fun hk => ?write, fun hk => ?writeRead, fun hk => ?begin, fun hk => ?block, ?direction⟩
  case address =>
    split
    · next h => exact Plan.afterAddress_index (hsome h)
    · next h =>
      have hempty := hnil (Bool.eq_false_iff.2 h)
      split
      · next hk => exact Plan.afterAddress_out hempty fun h0 => hsends.1 h0 hk
      · next hk =>
        rw [Plan.afterAddress_read hempty (hsends.2 hk), Plan.beginRead, hread]
        cases kind with
        | write => exact absurd (.inl rfl) hk
        | writeRead => exact absurd (.inr rfl) hk
        | _ => rfl
  case index =>
    split
    · next hk => exact Plan.afterIndex_out fun h0 => hsends.1 h0 hk
    · next hk =>
      refine Plan.afterIndex_read (hsends.2 hk) ?_
      rw [hread]
      cases kind with
      | probe => rw [hprobe rfl] at h; cases h
      | write => exact absurd (.inl rfl) hk
      | writeRead => exact absurd (.inr rfl) hk
      | _ => exact ReadPlan.noConfusion
  case write => subst hk; exact ⟨hout, by rw [Plan.afterOut, hread]; rfl⟩
  case writeRead => subst hk; exact ⟨hout, by rw [Plan.afterOut, hread]; rfl⟩
  case begin => rcases hk with rfl | rfl <;> rw [Plan.beginRead, hread] <;> rfl
  case block => subst hk; rw [Plan.beginRead, hread]; rfl
  case direction =>
    rw [Plan.writesFirst_eq_false_iff, hsends, hread]
    cases hpresent : present with
    | true => simp [hsome hpresent]
    | false => cases kind <;> simp [hnil hpresent, Kind.reads]

/-! ### Bytes received (O49) -/

section
variable {it : Item} {ack : Bool} {byte : Byte}

/-- The end of a descriptor's data byte. -/
theorem Item.byteEnd_dataIn {total : Nat} (hp : it.phase = .dataIn total) {kind : Kind} {present : Bool} {index : Word}
    {w r : Nat} {page : Option (Fin 32)} (hf : it.form = .descriptor kind present index w r page) :
    it.byteEnd ack byte =
      if it.cut && !it.cutLate then some ({ it with phase := .stop (.ended .aborted) }, false)
      else if it.readCount < total then some ({ it with phase := .dataIn total, cutLate := false }, false)
      else some ({ it with phase := .stop (.ended .ok) }, false) := by
  rw [Item.byteEnd, hp]
  dsimp only
  rw [hf]

/-- The end of a data byte of an engine's own read. -/
theorem Item.byteEnd_dataIn_own {total : Nat} (hp : it.phase = .dataIn total)
    (hf : ∀ kind present index w r page, it.form ≠ .descriptor kind present index w r page) :
    it.byteEnd ack byte = some ({ it with
      bytes := it.bytes ++ [byte]
      phase := if it.bytes.length + 1 < total then .dataIn total else .stop (.ended .ok) }, false) := by
  have hlen : (it.bytes ++ [byte]).length = it.bytes.length + 1 := List.length_append
  rw [Item.byteEnd, hp]
  dsimp only
  cases h : it.form with
  | descriptor kind present index w r page => exact absurd h (hf kind present index w r page)
  | _ => dsimp only; rw [hlen]; split <;> rfl

/-- The end of a length byte. -/
theorem Item.byteEnd_lengthByte (hp : it.phase = .lengthByte) :
    it.byteEnd ack byte =
      if it.cut && !it.cutLate then some ({ it with phase := .stop (.ended .aborted) }, false)
      else if lengthAccepted it.plan byte then some ({ it with phase := .dataIn byte.toNat, cutLate := false }, false)
      else some ({ it with phase := .stop (.ended .blockLengthBad) }, false) := by
  rw [Item.byteEnd, hp]

theorem lengthAccepted_blockRead {kind : Kind} {present : Bool} {index : Word} {w r : Nat} {page : Option (Fin 32)}
    (hf : it.form = .descriptor kind present index w r page) (hk : kind = .blockRead) (byte : Byte) :
    lengthAccepted it.plan byte = (decide (1 ≤ byte.toNat) && decide (byte.toNat ≤ r)) := by
  rw [lengthAccepted, Item.plan_descriptor hf, hk]
  rfl

/-- A data byte's bits end only with its store, so no byte's end is taken of them. -/
theorem Item.bringTo_atNinth_storing {now : Tick} (hs : it.storesByte = true) (hb : it.point = .bits) :
    it.bringTo Item.atNinth now = none := by
  refine Item.bringTo_eq_none (P := fun i => i.storesByte = true ∧ i.point = .bits) ?_ ?_ ⟨hs, hb⟩
  · rintro i i' w hw ⟨hs, hb⟩
    rcases Item.wire_cases hw with ⟨-, -, hf, -⟩ | ⟨-, -, hc, -⟩ | ⟨-, -, -, hns, -⟩ | ⟨-, -, -, rfl⟩ | ⟨-, rfl⟩
    · rw [hb] at hf; cases hf
    · rw [hb] at hc; cases hc
    · rw [hs] at hns; cases hns
    · exact ⟨hs, hb⟩
    · exact ⟨hs, hb⟩
  · rintro i ⟨-, hb⟩
    rw [Item.atNinth, hb]
    simp

/-- An item that receives no data byte's bits comes to none. -/
theorem Item.bringTo_receivesData_none {now : Tick} (h : ∀ total, it.phase = .dataIn total → it.point ≠ .bits) :
    it.bringTo Item.receivesData now = none := by
  refine Item.bringTo_eq_none (P := fun i => ∀ total, i.phase = .dataIn total → i.point ≠ .bits) ?_ ?_ h
  · intro i i' w hw h
    rcases Item.wire_cases hw with ⟨-, hp, -, rfl⟩ | ⟨-, hp, -, -, ⟨-, rfl⟩ | ⟨-, rfl⟩⟩ | ⟨-, hb, -, -, rfl⟩ |
      ⟨-, -, -, rfl⟩ | ⟨-, rfl⟩
    · intro total hd _
      rw [show i.phase = .dataIn total from hd] at hp
      cases hp
    · intro total hd _
      rw [show i.phase = .dataIn total from hd] at hp
      rcases hp with hp | hp <;> cases hp
    · intro total hd _
      cases hd
    · intro total _ hn
      cases hn
    · exact h
    · exact h
  · intro i h
    unfold Item.receivesData
    split
    · next total hp => simp [h total hp]
    · rfl

/-- A data byte's bits are taken of the item with its hold ended. -/
theorem Item.bringTo_receivesData {now : Tick} {total : Nat} (hp : it.phase = .dataIn total) (hb : it.point = .bits) :
    it.bringTo Item.receivesData now = some { it with hold := none } :=
  Item.bringTo_unheld (by simp [Item.receivesData, hp, hb]) fun hh => by simp [Item.receivesData, hp, hh]

end

section
variable {x : Seg} {s : State} {it : Item} {byte : Byte}

theorem pageStore_none (hit : (s.seg x).item = some it) (h : it.bringTo Item.receivesData s.tick = none) :
    pageStore x byte s = none := by
  unfold pageStore
  rw [hit]
  show (match it.bringTo Item.receivesData s.tick with | some i => _ | none => none) = _
  rw [h]

theorem pageStore_pageless (hit : (s.seg x).item = some it) (h : it.form.page = none) : pageStore x byte s = none := by
  unfold pageStore
  rw [hit]
  show (match it.bringTo Item.receivesData s.tick with | some i => _ | none => none) = _
  cases hb : it.bringTo Item.receivesData s.tick with
  | none => rfl
  | some i =>
    dsimp only
    rw [(Item.bringTo_form hb).1, h]

/-- The store of a received byte. -/
theorem pageStore_some (hit : (s.seg x).item = some it) {total : Nat} (hp : it.phase = .dataIn total) (hb : it.point = .bits)
    {page : Fin 32} (hf : it.form.page = some page) :
    pageStore x byte s = some { s.setSeg x { s.seg x with item := some { it with
        readCount := it.readCount + 1, point := .ninth, hold := none } } with
      mem := s.mem.write (pageAddr page it.readCount) byte } := by
  unfold pageStore
  rw [hit]
  show (match it.bringTo Item.receivesData s.tick with | some i => _ | none => none) = _
  rw [Item.bringTo_receivesData hp hb]
  dsimp only
  rw [hf]
  cases x <;> rfl

theorem Form.page_of_own {f : Form} (h : ∀ kind present index w r page, f ≠ .descriptor kind present index w r page) :
    f.page = none := by
  cases f with
  | descriptor kind present index w r page => exact absurd rfl (h kind present index w r page)
  | _ => rfl

end

/-- Settles O49: the store and the end of a descriptor's byte, of a length byte, and of an engine's own byte. -/
theorem receivedBytesAreStoredAndCounted : Obligations.ReceivedBytesAreStoredAndCounted := by
  unfold Obligations.ReceivedBytesAreStoredAndCounted
  intro x ack byte s it hrst hwf hit g goes
  have hcut : it.cut = true → it.cutLate = false → (it.cut && !it.cutLate) = true := fun hc hl => by rw [hc, hl]; rfl
  have hgoes : it.cut = false ∨ it.cutLate = true → ¬ (it.cut && !it.cutLate) = true := fun h => by
    rcases h with h | h <;> simp [h]
  refine ⟨fun kind present index w r page hf => ⟨fun total hp hb => ⟨?noEnd, ?stored⟩, fun h => ?noStore,
    fun hn hh => ⟨fun total hp => ⟨Item.answer_dataIn hn hp hf byte, fun hc hl => ?cut, fun hc => ?data⟩,
      fun hk hp => ⟨?answer, fun hc hl => ?lengthCut, fun hc => ?length⟩⟩⟩, fun hf => ⟨?ownStore, fun total hp hn hh =>
        ⟨Item.answer_dataIn_own hn hp hf byte, ?own⟩⟩⟩
  case noEnd =>
    have hs : it.storesByte = true := it.storesByte_iff.2 ⟨⟨total, hp⟩, kind, present, index, w, r, some page, hf⟩
    exact exec_byteEnd_never hit (Item.bringTo_atNinth_storing hs hb)
  case stored =>
    refine ⟨_, by rw [exec, execPageStore, pageStore_some hit hp hb (page := page) (by rw [hf]; rfl), happen_some hrst], ?_,
      fun a => Memory.read_write hwf a⟩
    cases x <;> rfl
  case noStore =>
    have hnone : it.bringTo Item.receivesData s.tick = none := Item.bringTo_receivesData_none fun total hp => by
      rcases h with h | h
      · exact absurd hp (h total)
      · exact h
    rw [exec, execPageStore, pageStore_none hit hnone, happen_none]
  case cut =>
    exact exec_byteEnd hrst hit hn hh (by rw [hp]; rfl) ((Item.byteEnd_dataIn hp hf).trans (if_pos (hcut hc hl)))
  case data =>
    split
    · next hlt =>
      exact exec_byteEnd hrst hit hn hh (by rw [hp]; rfl)
        ((Item.byteEnd_dataIn hp hf).trans ((if_neg (hgoes hc)).trans (if_pos hlt)))
    · next hge =>
      exact exec_byteEnd hrst hit hn hh (by rw [hp]; rfl)
        ((Item.byteEnd_dataIn hp hf).trans ((if_neg (hgoes hc)).trans (if_neg hge)))
  case answer => rw [Item.answer_lengthByte hn hp, lengthAccepted_blockRead hf hk]
  case lengthCut =>
    exact exec_byteEnd hrst hit hn hh (by rw [hp]; rfl) ((Item.byteEnd_lengthByte hp).trans (if_pos (hcut hc hl)))
  case length =>
    have haccepted : lengthAccepted it.plan byte = true ↔ 1 ≤ byte.toNat ∧ byte.toNat ≤ r := by
      rw [lengthAccepted_blockRead hf hk, Bool.and_eq_true, decide_eq_true_eq, decide_eq_true_eq]
    split
    · next hok =>
      exact exec_byteEnd hrst hit hn hh (by rw [hp]; rfl)
        ((Item.byteEnd_lengthByte hp).trans ((if_neg (hgoes hc)).trans (if_pos (haccepted.2 hok))))
    · next hbad =>
      exact exec_byteEnd hrst hit hn hh (by rw [hp]; rfl)
        ((Item.byteEnd_lengthByte hp).trans ((if_neg (hgoes hc)).trans (if_neg (mt haccepted.1 hbad))))
  case ownStore => rw [exec, execPageStore, pageStore_pageless hit (Form.page_of_own hf), happen_none]
  case own => exact exec_byteEnd hrst hit hn hh (by rw [hp]; rfl) (Item.byteEnd_dataIn_own hp hf)

end Sys2Proof.Machine
end

section
/-! SUPPORT. The stops of a transaction (5.4, 5.6) and recovery (chapter 7). -/

namespace Sys2Proof.Machine

/-! ### Stops and gaps (O50) -/

/-- A transaction's end does not depend on how the item in flight stands. -/
theorem closeItem_withItem (s : State) (x : Seg) (it : Item) (i : Option Item) (o : TxOutcome) :
    closeItem (s.setSeg x { s.seg x with item := i }) x it o = closeItem s x it o := by
  by_cases h : it.supplier = .loader
  · rw [closeItem_loader h, closeItem_loader h, State.setSeg_setSeg, State.seg_setSeg_same, State.setSeg_loader]
  · rw [closeItem_eq h, closeItem_eq h, State.setSeg_setSeg, State.seg_setSeg_same]
    rfl

section
variable {x : Seg} {s : State} {it : Item} {now : Tick}

theorem retryGapBegin_eq (hit : (s.seg x).item = some it) :
    retryGapBegin x s = (it.bringTo Item.atRetryStop s.tick).map fun i =>
      s.setSeg x { s.seg x with item := some (i.toPhase .gap s.tick) } := by
  rw [retryGapBegin, hit]
  rfl

theorem Item.bringTo_atRetryStop (h : it.phase = .stop .retry) :
    it.bringTo Item.atRetryStop now = some { it with hold := none } :=
  Item.bringTo_unheld (by simp [Item.atRetryStop, h]) fun hh => by simp [Item.atRetryStop, hh]

/-- No happening of the wires leads to the stop before a retry. -/
theorem Item.bringTo_atRetryStop_none (h : it.phase ≠ .stop .retry) : it.bringTo Item.atRetryStop now = none := by
  refine Item.bringTo_eq_none (P := fun i => i.phase ≠ .stop .retry) ?_ (fun i hi => by simp [Item.atRetryStop, hi]) h
  intro i i' w hw hi
  rcases Item.wire_cases hw with ⟨-, -, -, rfl⟩ | ⟨-, -, -, -, ⟨-, rfl⟩ | ⟨-, rfl⟩⟩ | ⟨-, -, -, -, rfl⟩ |
    ⟨-, -, -, rfl⟩ | ⟨-, rfl⟩
  case inr.inl.inr => rw [Item.settle_phase]; simp
  all_goals exact hi

theorem retryGapEnd_eq (hit : (s.seg x).item = some it) :
    retryGapEnd x s =
      if it.phase = .gap ∧ (if it.supplier = .loader then 2 else (s.seg x).cfg.retryGap.toNat) ≤ (s.tick - it.since).toNat
      then some (s.setSeg x { s.seg x with item := some (it.reopen s.tick) }) else none := by
  have htest : (decide (it.phase = .gap) &&
      decide ((itemConfig (s.seg x) it).retryGap.toNat ≤ elapsed it.since s.tick)) = true ↔ it.phase = .gap ∧
        (if it.supplier = .loader then 2 else (s.seg x).cfg.retryGap.toNat) ≤ (s.tick - it.since).toNat := by
    rw [itemConfig_retryGap, Bool.and_eq_true, decide_eq_true_eq, decide_eq_true_eq]
    rfl
  unfold retryGapEnd
  rw [hit]
  exact if_congr htest rfl rfl

theorem transactionEnd_eq (hit : (s.seg x).item = some it) :
    transactionEnd x s = (it.bringTo Item.atClosingStop s.tick).bind fun i => i.closing.map fun o => closeItem s x i o := by
  unfold transactionEnd
  rw [hit]
  show (match it.bringTo Item.atClosingStop s.tick with | some i => _ | none => none) = _
  cases it.bringTo Item.atClosingStop s.tick <;> rfl

theorem Item.closing_ended {o : TxOutcome} (h : it.phase = .stop (.ended o)) : it.closing = some o := by rw [Item.closing, h]

theorem Item.closing_none (h : ∀ o, it.phase ≠ .stop (.ended o)) : it.closing = none := by
  unfold Item.closing
  split
  · next o hp => exact absurd hp (h o)
  · rfl

theorem Item.bringTo_atClosingStop {o : TxOutcome} (h : it.phase = .stop (.ended o)) :
    it.bringTo Item.atClosingStop now = some { it with hold := none } := by
  have hclosing : Item.closing { it with hold := none } = some o := Item.closing_ended h
  refine Item.bringTo_unheld ?_ fun hh => by simp [Item.atClosingStop, hh]
  rw [Item.atClosingStop, hclosing]
  rfl

theorem Item.atClosingStop_of_none (h : it.closing = none) : it.atClosingStop = false := by simp [Item.atClosingStop, h]

/-- A condition that a cut lets complete leads to the closing stop. -/
theorem Item.bringTo_atClosingStop_cut (hcut : it.cut = true)
    (h : (it.phase = .opening ∨ it.phase = .restart) ∧ it.point = .condition) :
    it.bringTo Item.atClosingStop now = some (it.toPhase (.stop (.ended .aborted)) now) := by
  have hready : (it.toPhase (.stop (.ended .aborted)) now).atClosingStop = true := rfl
  have hstep : ∀ i : Item, (i.phase = .opening ∨ i.phase = .restart) ∧ i.point = .condition → i.hold = none → i.cut = true →
      i.bringTo Item.atClosingStop now = Item.bringTo Item.atClosingStop now (i.toPhase (.stop (.ended .aborted)) now) := by
    rintro i ⟨hp, hc⟩ hh hcut
    have hnot : i.atClosingStop = false := Item.atClosingStop_of_none (Item.closing_none fun o ho => by
      rw [ho] at hp
      rcases hp with hp | hp <;> cases hp)
    have hcondition : i.onward now = i.wire now .started := by rw [Item.onward_of_no_hold hh, hc]
    rw [Item.bringTo_eq, if_neg (Bool.eq_false_iff.1 hnot), hcondition, Item.wire_started ⟨hp, hc, hh⟩, if_pos hcut]
    rfl
  by_cases hh : it.hold = none
  · rw [hstep it h hh hcut, Item.bringTo_ready hready]
  · have hnot : it.atClosingStop = false := by simp [Item.atClosingStop, hh]
    rw [Item.bringTo_of_hold hh hnot, hstep { it with hold := none } h rfl hcut]
    exact Item.bringTo_ready hready

/-- An item with no cut marked comes to no closing stop by the wires. -/
theorem Item.bringTo_atClosingStop_none (h : ∀ o, it.phase ≠ .stop (.ended o)) (hcut : it.cut = false) :
    it.bringTo Item.atClosingStop now = none := by
  refine Item.bringTo_eq_none (P := fun i => (∀ o, i.phase ≠ .stop (.ended o)) ∧ i.cut = false) ?_
    (fun i hi => Item.atClosingStop_of_none (Item.closing_none hi.1)) ⟨h, hcut⟩
  rintro i i' w hw ⟨hi, hc⟩
  rcases Item.wire_cases hw with ⟨-, -, -, rfl⟩ | ⟨-, -, -, -, ⟨-, rfl⟩ | ⟨hcut, -⟩⟩ | ⟨-, -, -, -, rfl⟩ |
    ⟨-, -, -, rfl⟩ | ⟨-, rfl⟩
  case inr.inl.inr => rw [hc] at hcut; cases hcut
  all_goals exact ⟨hi, hc⟩

/-- The outcomes that are no fault. -/
theorem TxOutcome.isFault_eq_false {o : TxOutcome} (hs : o ≠ .stretchTimeout) (hb : o ≠ .busFault) : o.isFault = false := by
  cases o with
  | stretchTimeout => exact absurd rfl hs
  | busFault => exact absurd rfl hb
  | _ => rfl

end

/-- Settles O50: the stop before a retry, the gap, and the closing stop. -/
theorem stopsLeadToTheGapOrTheEnd : Obligations.StopsLeadToTheGapOrTheEnd := by
  unfold Obligations.StopsLeadToTheGapOrTheEnd
  intro x s it hrst hit g gap ripe
  have hend : ∀ {o : TxOutcome}, it.phase = .stop (.ended o) →
      exec (.transactionEnd x) s = .next (closeItem s x { it with hold := none } o) := fun {o} hp => by
    have hclosing : Item.closing { it with hold := none } = some o := Item.closing_ended hp
    rw [exec, execTransactionEnd, transactionEnd_eq hit, Item.bringTo_atClosingStop hp, Option.bind_some, hclosing,
      Option.map_some, happen_some hrst]
  refine ⟨fun hp => ?begin, fun hp => ?noBegin, fun hr => ?reopen, fun hr => ?noReopen,
    fun o hp hs hb => ⟨fun hown => ?own, fun hload => ?loader⟩, fun hcut h => ?cut, fun hp hcut => ?none⟩
  case begin =>
    rw [exec, execRetryGapBegin, retryGapBegin_eq hit, Item.bringTo_atRetryStop hp, Option.map_some, happen_some hrst]
    rfl
  case noBegin =>
    rw [exec, execRetryGapBegin, retryGapBegin_eq hit, Item.bringTo_atRetryStop_none hp, Option.map_none, happen_none]
  case reopen =>
    rw [exec, execRetryGapEnd, retryGapEnd_eq hit, if_pos hr, happen_some hrst]
    rfl
  case noReopen => rw [exec, execRetryGapEnd, retryGapEnd_eq hit, if_neg hr, happen_none]
  case own =>
    have hunheld : Item.supplier { it with hold := none } ≠ .loader := hown
    rw [hend hp, closeItem_ended hunheld (TxOutcome.isFault_eq_false hs hb)]
    rfl
  case loader =>
    have hunheld : Item.supplier { it with hold := none } = .loader := hload
    rw [hend hp, closeItem_loader hunheld]
  case cut =>
    have hcondition : (it.phase = .opening ∨ it.phase = .restart) ∧ it.point = .condition :=
      h.elim (fun h => ⟨.inl h.1, h.2⟩) fun h => ⟨.inr h.1, h.2⟩
    have hclosing : (it.toPhase (.stop (.ended .aborted)) s.tick).closing = some .aborted := rfl
    have hready : (it.toPhase (.stop (.ended .aborted)) s.tick).atClosingStop = true := rfl
    have hown : ((s.setSeg x { g with item := some (it.toPhase (.stop (.ended .aborted)) s.tick) }).seg x).item =
        some (it.toPhase (.stop (.ended .aborted)) s.tick) := by rw [State.seg_setSeg_same]
    rw [exec, exec, execTransactionEnd, execTransactionEnd, transactionEnd_eq hit, transactionEnd_eq hown,
      Item.bringTo_atClosingStop_cut hcut hcondition, Item.bringTo_ready hready, Option.bind_some, Option.bind_some, hclosing,
      Option.map_some, Option.map_some, happen_some hrst, happen_some (by rw [State.setSeg_rstnLow]; exact hrst),
      closeItem_withItem]
  case none =>
    rw [exec, execTransactionEnd, transactionEnd_eq hit, Item.bringTo_atClosingStop_none hp hcut, Option.bind_none,
      happen_none]

/-! ### Recovery (O51) -/

section
variable {r r' : Recovery} {high : Bool}

theorem Recovery.sample_opening (h : r.stage = .opening) :
    r.sample high = .on { r with stage := if high then .stop else .pulse } := by rw [Recovery.sample, h]

theorem Recovery.sample_pulse_high (h : r.stage = .pulse) :
    r.sample true = .on { r with pulses := r.pulses + 1, stage := .stop } := by rw [Recovery.sample, h]; rfl

theorem Recovery.sample_pulse_low (h : r.stage = .pulse) (hn : r.pulses < 8) :
    r.sample false = .on { r with pulses := r.pulses + 1 } := by
  have hlt : r.pulses + 1 < 9 := by omega
  rw [Recovery.sample, h]
  simp [hlt]

theorem Recovery.sample_pulse_last (h : r.stage = .pulse) (hn : 8 ≤ r.pulses) : r.sample false = .failed := by
  have hge : ¬ r.pulses + 1 < 9 := by omega
  rw [Recovery.sample, h]
  simp [hge]

theorem Recovery.sample_stop_high (h : r.stage = .stop) : r.sample true = .succeeded := by rw [Recovery.sample, h]; rfl

theorem Recovery.sample_stop_low (h : r.stage = .stop) (hn : r.pulses < 9) :
    r.sample false = .on { r with stage := .pulse } := by
  rw [Recovery.sample, h]
  simp [hn]

theorem Recovery.sample_stop_last (h : r.stage = .stop) (hn : 9 ≤ r.pulses) : r.sample false = .failed := by
  rw [Recovery.sample, h]
  simp [Nat.not_lt.2 hn]

theorem Recovery.run_on (h : r.sample high = .on r') (rest : List Bool) : r.run (high :: rest) = r'.run rest := by
  rw [Recovery.run, h]

/-- A sample that ends a recovery is the last. -/
theorem Recovery.run_end {how : RecoveryStep} (h : r.sample high = how) (hend : how = .succeeded ∨ how = .failed)
    (rest : List Bool) : r.run (high :: rest) = if rest = [] then some how else none := by
  rcases hend with rfl | rfl <;> rw [Recovery.run, h]

section
variable {x : Seg} {s : State} {w : Wire}

theorem takeWire_of_recovery (hit : (s.seg x).item = none) (hr : (s.seg x).recovery = some r)
    (h : r.wire s.tick (s.seg x).cfg.stretch w = some r') :
    takeWire x w s = s.setSeg x { s.seg x with recovery := some r' } := by
  simp only [takeWire, Segment.wire, hit, hr, h, Option.map_some, Option.getD_some]

theorem takeWire_of_no_recovery_wire (hit : (s.seg x).item = none) (hr : (s.seg x).recovery = some r)
    (h : r.wire s.tick (s.seg x).cfg.stretch w = none) : takeWire x w s = s := by
  rw [takeWire, Segment.wire, hit, hr]
  dsimp only
  rw [h]
  rfl

end

section
variable {now : Tick} {stretch : Byte}

theorem Recovery.wire_sampled (hh : r.hold = none) (h : r.sample high = .on r') :
    r.wire now stretch (.sampled high) = some r' := by
  rw [Recovery.wire, if_pos hh, h]

theorem Recovery.wire_sampled_end {how : RecoveryStep} (h : r.sample high = how) (hend : how = .succeeded ∨ how = .failed) :
    r.wire now stretch (.sampled high) = none := by
  rw [Recovery.wire]
  split
  · rcases hend with rfl | rfl <;> rw [h]
  · rfl

theorem Recovery.wire_sampled_held (hh : r.hold ≠ none) : r.wire now stretch (.sampled high) = none := if_neg hh

theorem Recovery.wire_held (hh : r.hold = none) :
    r.wire now stretch .held = some { r with hold := some { since := now, limit := stretch } } := if_pos hh

theorem Recovery.wire_held_none (hh : r.hold ≠ none) : r.wire now stretch .held = none := if_neg hh

end

/-- The pulse count of a recovery stays in its range: at most 9, and below 9 while a pulse is to be given. -/
theorem Recovery.run_inRange : ∀ {samples : List Bool} {r r' : Recovery}, r.run samples = some (.on r') → r.InRange →
    r'.InRange := by
  intro samples
  induction samples with
  | nil =>
    intro r r' h hr
    rw [Recovery.run] at h
    cases h
    exact hr
  | cons b rest ih =>
    intro r r' h hr
    rw [Recovery.run] at h
    split at h
    · next hs => exact ih h (Recovery.sample_inRange hs hr)
    · split at h <;> cases h
    · split at h <;> cases h

end

/-- The state a success leaves, in the statement's words. -/
theorem SegState.recovered_eq (st : SegState) :
    st.recovered = if st = .recovery then .ready else if st = .pausingRec then .paused else st := by cases st <;> rfl

theorem SegState.halt_eq (st : SegState) : st.halt = if st = .recovery ∨ st = .pausingRec then .halted else st := by
  cases st <;> rfl

theorem failRecovery_eq (s : State) (x : Seg) : failRecovery s x = s.setSeg x { s.seg x with
    recovery := none
    state := if (s.seg x).state = .recovery ∨ (s.seg x).state = .pausingRec then .halted else (s.seg x).state } := by
  rw [failRecovery, State.updSeg_eq, SegState.halt_eq]

section
variable {x : Seg} {s : State} {r : Recovery} (hr : (s.seg x).recovery = some r)
include hr

theorem recoverySucceeded_eq (samples : List Bool) :
    recoverySucceeded x samples s =
      if r.run samples = some .succeeded then some (s.setSeg x { s.seg x with
        recovery := none
        state := if (s.seg x).state = .recovery then .ready
          else if (s.seg x).state = .pausingRec then .paused else (s.seg x).state })
      else none := by
  unfold recoverySucceeded
  rw [hr]
  dsimp only
  rw [State.updSeg_eq, SegState.recovered_eq]

theorem recoveryFailed_eq (samples : List Bool) :
    recoveryFailed x samples s = if r.run samples = some .failed then some (failRecovery s x) else none := by
  unfold recoveryFailed
  rw [hr]

theorem recoveryHoldTimeout_eq {h : RecoveryHold} (hh : r.hold = some h) :
    recoveryHoldTimeout x s =
      if h.limit.toNat < (s.tick - h.since).toNat then some (failRecovery s x) else none := by
  unfold recoveryHoldTimeout
  rw [hr]
  dsimp only
  rw [hh]
  rfl

theorem recoveryHoldTimeout_unheld (hh : r.hold = none) : recoveryHoldTimeout x s = none := by
  unfold recoveryHoldTimeout
  rw [hr]
  dsimp only
  rw [hh]

theorem linesReleased_of_recovery (hrst : s.rstnLow = false) (hit : (s.seg x).item = none) :
    linesReleased s x = true ↔ r.stage = .opening ∨ (r.stage = .pulse ∧ r.hold ≠ none) := by
  rw [linesReleased, hrst, hit, hr]
  cases hst : r.stage <;> simp [Recovery.linesReleased, hst]

end

/-- Settles O51: each sample of a recovery, its holds, and its ends. -/
theorem recoverySucceedsOrHalts : Obligations.RecoverySucceedsOrHalts := by
  unfold Obligations.RecoverySucceedsOrHalts
  refine ⟨?_, by decide, by decide, by decide,
    fun samples r h => (Recovery.run_inRange h ⟨by decide, fun _ => by decide⟩).1⟩
  intro x s r hrst hit hr g becomes freed halted goesOn ends
  have hon : ∀ {high : Bool} {r' : Recovery}, r.sample high = .on r' → goesOn high r' := fun h =>
    ⟨fun hh => takeWire_of_recovery hit hr (Recovery.wire_sampled hh h), Recovery.run_on h⟩
  have hends : ∀ {high : Bool} {how : RecoveryStep}, r.sample high = how → how = .succeeded ∨ how = .failed → ends high how :=
    fun h hend => ⟨takeWire_of_no_recovery_wire hit hr (Recovery.wire_sampled_end h hend), Recovery.run_end h hend⟩
  refine ⟨fun samples => ⟨?succeeded, ?failed⟩, rfl, linesReleased_of_recovery hr hrst hit,
    fun h => ⟨hon (Recovery.sample_opening h), hon (Recovery.sample_opening h)⟩,
    fun h => ⟨hon (Recovery.sample_pulse_high h), fun hn => hon (Recovery.sample_pulse_low h hn),
      fun hn => hends (Recovery.sample_pulse_last h hn) (.inr rfl)⟩,
    fun h => ⟨hends (Recovery.sample_stop_high h) (.inl rfl), fun hn => hon (Recovery.sample_stop_low h hn),
      fun hn => hends (Recovery.sample_stop_last h hn) (.inr rfl)⟩,
    takeWire_of_recovery hit hr rfl,
    fun hh => ⟨takeWire_of_recovery hit hr (Recovery.wire_held hh), ?unheld⟩,
    fun h hh => ⟨fun high => takeWire_of_no_recovery_wire hit hr (Recovery.wire_sampled_held ?held),
      takeWire_of_no_recovery_wire hit hr (Recovery.wire_held_none ?held), fun ht => ?late, fun ht => ?inTime⟩⟩
  case succeeded =>
    rw [exec, execRecoverySucceeded, recoverySucceeded_eq hr]
    split
    · rw [happen_some hrst]
    · rw [happen_none]
  case failed =>
    rw [exec, execRecoveryFailed, recoveryFailed_eq hr, failRecovery_eq]
    split
    · rw [happen_some hrst]
    · rw [happen_none]
  case unheld => rw [exec, execRecoveryHoldTimeout, recoveryHoldTimeout_unheld hr hh, happen_none]
  case held => rw [hh]; exact Option.some_ne_none h
  case late =>
    rw [exec, execRecoveryHoldTimeout, recoveryHoldTimeout_eq hr hh, if_pos ht, happen_some hrst, failRecovery_eq]
  case inTime => rw [exec, execRecoveryHoldTimeout, recoveryHoldTimeout_eq hr hh, if_neg (Nat.not_lt.2 ht), happen_none]

end Sys2Proof.Machine
end

section
/-! SUPPORT. The Configuration Loader: record bodies, the walk along the list, the report of a read, and LOADSTAT (11.1 to 11.4,
Tables 11-1, 12-9 and 12-12). -/

namespace Sys2Proof.Machine

/-! ### Bytes with two meanings (R197) -/

/-- A byte that is 00H no or 01H yes. -/
abbrev IsFlag (b : Byte) : Prop := b = 0x00 ∨ b = 0x01

theorem yesNo_of_flag {b : Byte} (h : IsFlag b) : yesNo b = some (decide (b = 0x01)) := by
  rcases h with rfl | rfl <;> rfl

theorem yesNo_of_not_flag {b : Byte} (h : ¬ IsFlag b) : yesNo b = none := by
  obtain ⟨h0, h1⟩ := not_or.1 h
  rw [yesNo, if_neg h0, if_neg h1]

theorem segOfBit_decide (b : Byte) : segOfBit (decide (b = 0x01)) = if b = 0x01 then Seg.b else Seg.a := by
  by_cases h : b = 0x01 <;> simp [segOfBit, h]

/-! ### SEGMENT bodies -/

/-- The conditions on a SEGMENT body (R104, R197). -/
def SegmentLegal (b : List Byte) : Prop :=
  IsFlag (byteAt b 0) ∧ IsFlag (byteAt b 5) ∧ IsFlag (byteAt b 7) ∧ byteAt b 1 ≠ 0 ∧ byteAt b 2 ≠ 0 ∧
    (byteAt b 3).toNat ≤ 15 ∧ 1 ≤ (byteAt b 4).toNat ∧ (byteAt b 4).toNat ≤ 8 ∧ byteAt b 6 ≠ 0

/-- The configuration a SEGMENT body gives, with its enable (Table 12-12). -/
def segmentGiven (b : List Byte) : SegConfig × Bool :=
  ({ busFree := byteAt b 1, stretch := byteAt b 2, retryGap := (byteAt b 3).setWidth 4, pollShare := (byteAt b 4).setWidth 4
     alertEnable := decide (byteAt b 5 = 0x01), holdoff := byteAt b 6 }, decide (byteAt b 7 = 0x01))

theorem segmentBody_of_legal {b : List Byte} (h : SegmentLegal b) :
    segmentBody b = some (if byteAt b 0 = 0x01 then Seg.b else Seg.a, (segmentGiven b).1, (segmentGiven b).2) := by
  obtain ⟨h0, h5, h7, h1, h2, h3, h4, h4', h6⟩ := h
  unfold segmentBody
  rw [yesNo_of_flag h0, yesNo_of_flag h5, yesNo_of_flag h7]
  dsimp only
  rw [segConfig, if_pos, segOfBit_decide]
  · rfl
  · simp only [Bool.and_eq_true, decide_eq_true_eq]
    exact ⟨⟨⟨⟨⟨h1, h2⟩, h3⟩, h4⟩, h4'⟩, h6⟩

theorem segmentBody_of_not_legal {b : List Byte} (h : ¬ SegmentLegal b) : segmentBody b = none := by
  by_cases h0 : IsFlag (byteAt b 0)
  case neg => rw [segmentBody, yesNo_of_not_flag h0]
  by_cases h5 : IsFlag (byteAt b 5)
  case neg => rw [segmentBody, yesNo_of_flag h0, yesNo_of_not_flag h5]
  by_cases h7 : IsFlag (byteAt b 7)
  case neg => rw [segmentBody, yesNo_of_flag h0, yesNo_of_flag h5, yesNo_of_not_flag h7]
  rw [segmentBody, yesNo_of_flag h0, yesNo_of_flag h5, yesNo_of_flag h7]
  dsimp only
  rw [segConfig, if_neg, Option.map_none]
  intro htest
  simp only [Bool.and_eq_true, decide_eq_true_eq, and_assoc] at htest
  exact h ⟨h0, h5, h7, htest⟩

theorem checkBody_segment (sh : Shadow) (b : List Byte) :
    (¬ SegmentLegal b → checkBody sh 0x01 b = .error .badField) ∧
    (SegmentLegal b → (sh.seg (if byteAt b 0 = 0x01 then Seg.b else Seg.a)).isSome = true →
      checkBody sh 0x01 b = .error .duplicate) ∧
    (SegmentLegal b → sh.seg (if byteAt b 0 = 0x01 then Seg.b else Seg.a) = none → checkBody sh 0x01 b =
      .ok (if (if byteAt b 0 = 0x01 then Seg.b else Seg.a) = Seg.a then { sh with segA := some (segmentGiven b) }
        else { sh with segB := some (segmentGiven b) })) := by
  refine ⟨fun h => ?_, fun h hd => ?_, fun h hn => ?_⟩ <;> show checkSegment sh b = _ <;> rw [checkSegment]
  · rw [segmentBody_of_not_legal h]
  · rw [segmentBody_of_legal h]
    exact if_pos hd
  · rw [segmentBody_of_legal h]
    dsimp only
    rw [hn, if_neg (by simp)]
    split <;> rfl

/-! ### TARGET bodies -/

theorem targetBody_eq (b : List Byte) : targetBody b =
    if IsFlag (byteAt b 1) ∧ (byteAt b 0).toNat ≤ 31 ∧ (byteAt b 4).toNat ≤ 15 then
      (targetConfig (if byteAt b 1 = 0x01 then Seg.b else Seg.a) (byteAt b 2) (byteAt b 3) ((byteAt b 4).setWidth 4)
        (byteAt b 7) (wordAt b 5)).map fun c => (idx32 (byteAt b 0).toNat, c)
    else none := by
  unfold targetBody
  by_cases hf : IsFlag (byteAt b 1)
  · rw [yesNo_of_flag hf]
    dsimp only
    rw [segOfBit_decide]
    refine if_congr ?_ rfl rfl
    rw [Bool.and_eq_true, decide_eq_true_eq, decide_eq_true_eq, and_iff_right hf]
  · rw [yesNo_of_not_flag hf, if_neg fun h => hf h.1]

theorem hasPlace_iff (sh : Shadow) (place : Seg × BitVec 7) : sh.hasPlace place = true ↔
    ∃ j u, sh.targets.get j = some u ∧ u.segment = place.1 ∧ u.address = place.2 := by
  unfold Shadow.hasPlace
  rw [List.any_eq_true]
  constructor
  · rintro ⟨t, ht, htest⟩
    obtain ⟨j, hj, hget⟩ := List.mem_iff_getElem.1 ht
    cases t with
    | none => cases htest
    | some u =>
      rw [Bool.and_eq_true, decide_eq_true_eq, decide_eq_true_eq] at htest
      exact ⟨⟨j, by simpa using hj⟩, u, by simpa [Vector.get_eq_getElem] using hget, htest⟩
  · rintro ⟨j, u, hget, hseg, haddr⟩
    refine ⟨some u, ?_, by simp [hseg, haddr]⟩
    rw [← hget]
    exact Vector.mem_toList_iff.2 (Vector.getElem_mem j.isLt)

theorem checkBody_target (sh : Shadow) (b : List Byte) :
    let fields := targetConfig (if byteAt b 1 = 0x01 then Seg.b else Seg.a) (byteAt b 2) (byteAt b 3)
      ((byteAt b 4).setWidth 4) (byteAt b 7) (wordAt b 5)
    let ranges := IsFlag (byteAt b 1) ∧ (byteAt b 0).toNat ≤ 31 ∧ (byteAt b 4).toNat ≤ 15
    (¬ ranges ∨ fields = none → checkBody sh 0x02 b = .error .badField) ∧
    ∀ t, ranges → fields = some t →
      let taken := (sh.targets.get (idx32 (byteAt b 0).toNat)).isSome = true ∨
        ∃ j u, sh.targets.get j = some u ∧ u.segment = t.segment ∧ u.address = t.address
      (taken → checkBody sh 0x02 b = .error .duplicate) ∧
      (¬ taken → checkBody sh 0x02 b = .ok { sh with targets := vset sh.targets (idx32 (byteAt b 0).toNat) (some t) }) := by
  intro fields ranges
  have hbody : ∀ t, ranges → fields = some t → targetBody b = some (idx32 (byteAt b 0).toNat, t) := fun t hr ht => by
    rw [targetBody_eq, if_pos hr]
    exact congrArg (Option.map _) ht
  refine ⟨fun h => ?_, fun t hr ht => ?_⟩
  · have hnone : targetBody b = none := by
      rw [targetBody_eq]
      split
      · next hr =>
        rcases h with h | h
        · exact absurd hr h
        · exact congrArg (Option.map _) h
      · rfl
    show checkTarget sh b = _
    rw [checkTarget, hnone]
  · have htaken : ((sh.targets.get (idx32 (byteAt b 0).toNat)).isSome || sh.hasPlace (t.segment, t.address)) = true ↔
        (sh.targets.get (idx32 (byteAt b 0).toNat)).isSome = true ∨
          ∃ j u, sh.targets.get j = some u ∧ u.segment = t.segment ∧ u.address = t.address := by
      rw [Bool.or_eq_true, hasPlace_iff]
    have hcheck : checkBody sh 0x02 b = checkTarget sh b := rfl
    rw [hcheck, checkTarget, hbody t hr ht]
    exact ⟨fun h => if_pos (htaken.2 h), fun h => if_neg (mt htaken.1 h)⟩

/-! ### POLL bodies -/

theorem pollBody_eq (b : List Byte) : pollBody b =
    if IsFlag (byteAt b 1) ∧ (byteAt b 0).toNat ≤ 23 then
      (pollConfig (wordAt b 2) (wordAt b 4) (wordAt b 6) (wordAt b 8) (wordAt b 10) (wordAt b 12) (wordAt b 14)).map
        fun c => (idx24 (byteAt b 0).toNat, c, decide (byteAt b 1 = 0x01))
    else none := by
  unfold pollBody
  by_cases hf : IsFlag (byteAt b 1)
  · rw [yesNo_of_flag hf]
    exact if_congr (and_iff_right hf).symm rfl rfl
  · rw [yesNo_of_not_flag hf, if_neg fun h => hf h.1]

theorem checkBody_poll (sh : Shadow) (b : List Byte) :
    let fields := pollConfig (wordAt b 2) (wordAt b 4) (wordAt b 6) (wordAt b 8) (wordAt b 10) (wordAt b 12) (wordAt b 14)
    let ranges := IsFlag (byteAt b 1) ∧ (byteAt b 0).toNat ≤ 23
    (¬ ranges ∨ fields = none → checkBody sh 0x03 b = .error .badField) ∧
    ∀ q, ranges → fields = some q →
      ((sh.polls.get (idx24 (byteAt b 0).toNat)).isSome = true → checkBody sh 0x03 b = .error .duplicate) ∧
      (sh.polls.get (idx24 (byteAt b 0).toNat) = none →
        (sh.targets.get q.target = none → checkBody sh 0x03 b = .error .undefinedTarget) ∧
        ∀ t, sh.targets.get q.target = some t →
          checkBody sh 0x03 b =
            if byteAt b 1 = 0x01 ∧ t.width = 1 ∧ 0xFF < q.register.toNat then .error .badField
            else .ok { sh with
              polls := vset sh.polls (idx24 (byteAt b 0).toNat) (some (q, decide (byteAt b 1 = 0x01))) }) := by
  intro fields ranges
  refine ⟨fun h => ?_, fun q hr hq => ?_⟩
  · have hnone : pollBody b = none := by
      rw [pollBody_eq]
      split
      · next hr =>
        rcases h with h | h
        · exact absurd hr h
        · exact congrArg (Option.map _) h
      · rfl
    show checkPoll sh b = _
    rw [checkPoll, hnone]
  · have hbody : pollBody b = some (idx24 (byteAt b 0).toNat, q, decide (byteAt b 1 = 0x01)) := by
      rw [pollBody_eq, if_pos hr]
      exact congrArg (Option.map _) hq
    have hcheck : checkBody sh 0x03 b = checkPoll sh b := rfl
    rw [hcheck, checkPoll, hbody]
    refine ⟨fun hd => if_pos hd, fun hn => ?_⟩
    dsimp only
    rw [hn, if_neg (by simp)]
    refine ⟨fun ht => by rw [ht], fun t ht => ?_⟩
    rw [ht]
    refine if_congr ?_ rfl rfl
    rw [Bool.and_eq_true, Bool.and_eq_true, decide_eq_true_eq, decide_eq_true_eq, decide_eq_true_eq, and_assoc]

/-! ### EVENTS bodies -/

theorem eventsBody_eq (b : List Byte) : eventsBody b =
    if (byteAt b 2 = 0x00 ∨ byteAt b 2 = 0x80) ∧ 1 ≤ (byteAt b 3).toNat ∧ (byteAt b 3).toNat ≤ 32 then
      some { mask := wordAt b 0 &&& 0x3FFF
             mode := if byteAt b 2 = 0x80 then ClearMode.readClears else ClearMode.writeOne
             watermark := (byteAt b 3).setWidth 6 }
    else none := by
  have hmode : clearModeOfBit (decide (byteAt b 2 = 0x80)) =
      if byteAt b 2 = 0x80 then ClearMode.readClears else ClearMode.writeOne := by
    by_cases h : byteAt b 2 = 0x80 <;> simp [clearModeOfBit, h]
  unfold eventsBody
  dsimp only
  rw [hmode]
  refine if_congr ?_ rfl rfl
  rw [Bool.and_eq_true, Bool.and_eq_true, Bool.or_eq_true, decide_eq_true_eq, decide_eq_true_eq, decide_eq_true_eq,
    decide_eq_true_eq, and_assoc]

theorem checkBody_events (sh : Shadow) (b : List Byte) :
    let ranges := (byteAt b 2 = 0x00 ∨ byteAt b 2 = 0x80) ∧ 1 ≤ (byteAt b 3).toNat ∧ (byteAt b 3).toNat ≤ 32
    (¬ ranges → checkBody sh 0x04 b = .error .badField) ∧
    (ranges → sh.events.isSome = true → checkBody sh 0x04 b = .error .duplicate) ∧
    (ranges → sh.events = none → checkBody sh 0x04 b = .ok { sh with
      events := some {
        mask := wordAt b 0 &&& 0x3FFF, mode := if byteAt b 2 = 0x80 then ClearMode.readClears else ClearMode.writeOne
        watermark := (byteAt b 3).setWidth 6 } }) := by
  have hcheck : checkBody sh 0x04 b = checkEvents sh b := rfl
  intro ranges
  rw [hcheck, checkEvents, eventsBody_eq]
  refine ⟨fun h => by rw [if_neg h], fun h hd => ?_, fun h hn => ?_⟩
  · rw [if_pos h]
    exact if_pos hd
  · rw [if_pos h, hn]
    rfl

/-! ### The walk -/

/-- The codes of Table 12-12 that are records, and END. -/
abbrev IsCode (code : Byte) : Prop := (code = 0x01 ∨ code = 0x02 ∨ code = 0x03 ∨ code = 0x04) ∨ code = 0xFF

/-- The length of a record's body. -/
def lengthOf (code : Byte) : Nat :=
  if code = 0x01 ∨ code = 0x02 then 8 else if code = 0x03 then 16 else if code = 0x04 then 4 else 0

theorem bodyLength_of_code {code : Byte} (h : IsCode code) : bodyLength code = some (lengthOf code) := by
  rcases h with (rfl | rfl | rfl | rfl) | rfl <;> rfl

theorem bodyLength_of_no_code {code : Byte} (h : ¬ IsCode code) : bodyLength code = none := by
  have hne : ∀ k : Byte, IsCode k → code.toNat ≠ k.toNat := fun k hk he => h (BitVec.eq_of_toNat_eq he ▸ hk)
  unfold bodyLength
  split
  · next he => exact absurd he (hne 0x01 (.inl (.inl rfl)))
  · next he => exact absurd he (hne 0x02 (.inl (.inr (.inl rfl))))
  · next he => exact absurd he (hne 0x03 (.inl (.inr (.inr (.inl rfl)))))
  · next he => exact absurd he (hne 0x04 (.inl (.inr (.inr (.inr rfl)))))
  · next he => exact absurd he (hne 0xFF (.inr rfl))
  · rfl

/-- The sum of R186 is that of the bytes' values, modulo 2^16. -/
theorem foldl_byteSum (l : List Byte) : ∀ w : Word,
    l.foldl (fun w b => w + b.setWidth 16) w = w + BitVec.ofNat 16 (l.map BitVec.toNat).sum := by
  induction l with
  | nil => exact fun w => (BitVec.add_zero w).symm
  | cons b rest ih =>
    intro w
    rw [List.foldl_cons, ih, List.map_cons, List.sum_cons, BitVec.ofNat_add, BitVec.ofNat_toNat, BitVec.add_assoc]

theorem byteSum_eq (l : List Byte) : byteSum l = BitVec.ofNat 16 (l.map BitVec.toNat).sum := by
  rw [byteSum, foldl_byteSum]
  exact BitVec.zero_add _

/-- One record's checks, in the order of R184. -/
theorem walk_succ (fuel : Nat) (l : Loader) : walk (fuel + 1) l =
    if 4092 < l.offset then .failed .overlong l
    else if l.bytes.length ≤ l.offset then .more l
    else if ¬ IsCode (byteAt l.bytes l.offset) then .failed .badType l
    else if l.bytes.length ≤ l.offset + 1 then .more l
    else if (byteAt l.bytes (l.offset + 1)).toNat ≠ lengthOf (byteAt l.bytes l.offset) then .failed .badLength l
    else if byteAt l.bytes l.offset = 0xFF then
      if l.bytes.length ≤ l.offset + 3 then .more l
      else if wordAt l.bytes (l.offset + 2) = BitVec.ofNat 16 ((l.bytes.take (l.offset + 2)).map BitVec.toNat).sum then .good l
      else .failed .checksum l
    else if 4091 < l.offset + 1 + lengthOf (byteAt l.bytes l.offset) then .failed .overlong l
    else if l.bytes.length < l.offset + 2 + lengthOf (byteAt l.bytes l.offset) then .more l
    else
      match checkBody l.shadow (byteAt l.bytes l.offset)
        ((l.bytes.drop (l.offset + 2)).take (lengthOf (byteAt l.bytes l.offset))) with
      | .error reason => .failed reason l
      | .ok sh => walk fuel { l with
          shadow := sh, good := l.good + 1, offset := l.offset + 2 + lengthOf (byteAt l.bytes l.offset) } := by
  rw [walk]
  refine if_congr Iff.rfl rfl (if_congr Iff.rfl rfl ?_)
  by_cases hc : IsCode (byteAt l.bytes l.offset)
  · rw [if_neg (not_not.2 hc), bodyLength_of_code hc, ← byteSum_eq] <;> rfl
  · rw [if_pos hc, bodyLength_of_no_code hc]

/-- One record's checks decide at once, or lead to the record after it, which the bytes taken reach. -/
theorem walk_steps (l : Loader) : (∃ w, ∀ fuel, walk (fuel + 1) l = w) ∨
    ∃ l', l'.bytes = l.bytes ∧ l.offset < l'.offset ∧ l'.offset ≤ l.bytes.length ∧ ∀ fuel, walk (fuel + 1) l = walk fuel l' := by
  by_cases h1 : 4092 < l.offset
  · exact .inl ⟨_, fun fuel => by rw [walk_succ, if_pos h1]⟩
  by_cases h2 : l.bytes.length ≤ l.offset
  · exact .inl ⟨_, fun fuel => by rw [walk_succ, if_neg h1, if_pos h2]⟩
  by_cases h3 : IsCode (byteAt l.bytes l.offset)
  case neg => exact .inl ⟨_, fun fuel => by rw [walk_succ, if_neg h1, if_neg h2, if_pos h3]⟩
  have h3 := not_not.2 h3
  by_cases h4 : l.bytes.length ≤ l.offset + 1
  · exact .inl ⟨_, fun fuel => by rw [walk_succ, if_neg h1, if_neg h2, if_neg h3, if_pos h4]⟩
  by_cases h5 : (byteAt l.bytes (l.offset + 1)).toNat ≠ lengthOf (byteAt l.bytes l.offset)
  · exact .inl ⟨_, fun fuel => by rw [walk_succ, if_neg h1, if_neg h2, if_neg h3, if_neg h4, if_pos h5]⟩
  by_cases h6 : byteAt l.bytes l.offset = 0xFF
  · exact .inl ⟨_, fun fuel => by rw [walk_succ, if_neg h1, if_neg h2, if_neg h3, if_neg h4, if_neg h5, if_pos h6]⟩
  by_cases h7 : 4091 < l.offset + 1 + lengthOf (byteAt l.bytes l.offset)
  · exact .inl ⟨_, fun fuel => by rw [walk_succ, if_neg h1, if_neg h2, if_neg h3, if_neg h4, if_neg h5, if_neg h6, if_pos h7]⟩
  by_cases h8 : l.bytes.length < l.offset + 2 + lengthOf (byteAt l.bytes l.offset)
  · exact .inl ⟨_, fun fuel => by
      rw [walk_succ, if_neg h1, if_neg h2, if_neg h3, if_neg h4, if_neg h5, if_neg h6, if_neg h7, if_pos h8]⟩
  cases hc : checkBody l.shadow (byteAt l.bytes l.offset)
    ((l.bytes.drop (l.offset + 2)).take (lengthOf (byteAt l.bytes l.offset))) with
  | error reason =>
    exact .inl ⟨_, fun fuel => by
      rw [walk_succ, if_neg h1, if_neg h2, if_neg h3, if_neg h4, if_neg h5, if_neg h6, if_neg h7, if_neg h8, hc]⟩
  | ok sh =>
    refine .inr ⟨{ l with shadow := sh, good := l.good + 1, offset := l.offset + 2 + lengthOf (byteAt l.bytes l.offset) },
      rfl, ?_, Nat.le_of_not_lt h8, fun fuel => ?_⟩
    · dsimp only
      omega
    · rw [walk_succ, if_neg h1, if_neg h2, if_neg h3, if_neg h4, if_neg h5, if_neg h6, if_neg h7, if_neg h8, hc]

/-- More fuel than bytes are left changes nothing. -/
theorem walk_fuel : ∀ (f f' : Nat) (l : Loader), l.bytes.length - l.offset < f → l.bytes.length - l.offset < f' →
    walk f l = walk f' l := by
  intro f
  induction f with
  | zero => exact fun _ _ h => absurd h (Nat.not_lt_zero _)
  | succ f ih =>
    intro f' l hf hf'
    obtain ⟨f', rfl⟩ : ∃ n, f' = n + 1 := ⟨f' - 1, by omega⟩
    rcases walk_steps l with ⟨w, hw⟩ | ⟨l', hbytes, hlt, hle, hw⟩
    · rw [hw, hw]
    · rw [hw, hw]
      exact ih f' l' (by rw [hbytes]; omega) (by rw [hbytes]; omega)

/-! ### LOADSTAT (Table 12-9) -/

theorem LoadState.code_toNat (st : LoadState) : st.code.toNat = st.number := by cases st <;> rfl

theorem LoadReason.code_toNat (r : LoadReason) : r.code.toNat = r.number := by cases r <;> rfl

/-- The fields of LOADSTAT's first word. -/
theorem fields_loadStat0 (state : BitVec 3) (reason : BitVec 4) (good : BitVec 8) :
    let w := state ++ 0#1 ++ reason ++ good
    w.extractLsb' 13 3 = state ∧ w.extractLsb' 8 4 = reason ∧ w.getLsbD 12 = false ∧ w.extractLsb' 0 8 = good := by
  intro w
  have hgap : (0#1).getLsbD 0 = false := rfl
  simp (disch := decide) only [w, BitVec.extractLsb'_append_eq_of_le, getLsbD_append_of_le, Nat.reduceSub,
    BitVec.extractLsb'_append_eq_right, BitVec.extractLsb'_eq_self, BitVec.getLsbD_append, hgap]
  simp

theorem loadStat1_toNat {l : Loader} (h : l.offset ≤ 4095) : (loadStat1 l).toNat = l.offset := by
  have hfits : (BitVec.ofNat 12 l.offset).toNat = l.offset := ofNat_toNat_of_lt (by omega)
  show (0#4 ++ BitVec.ofNat 12 l.offset).toNat = _
  rw [BitVec.toNat_append, hfits]
  simp

/-! ### The report of a loader read (O52) -/

section
variable {s : State} {r : LoaderReport} (hl : s.loader.state = .loading) (hr : s.loader.report = some r)
include hl hr

theorem loaderReadReport_failed (ho : r.outcome ≠ .ok) :
    loaderReadReport s =
      some (loadFail s (readReason s.loader.bytes.isEmpty r) { s.loader with report := none }) := by
  unfold loaderReadReport
  dsimp only
  rw [hr]
  dsimp only
  rw [if_pos hl, if_neg ho]

theorem loaderReadReport_ok (ho : r.outcome = .ok) :
    loaderReadReport s = some (
      match walk ((s.loader.bytes ++ r.bytes).length + 1) { s.loader with report := none, bytes := s.loader.bytes ++ r.bytes } with
      | .more m => beginPiece { s with loader := m }
      | .failed reason m => loadFail s reason m
      | .good m => Machine.commit s m) := by
  unfold loaderReadReport
  dsimp only
  rw [hr]
  dsimp only
  rw [if_pos hl, if_pos ho]
  cases walk ((s.loader.bytes ++ r.bytes).length + 1)
    { s.loader with report := none, bytes := s.loader.bytes ++ r.bytes } <;> rfl

end

theorem readReason_eq (bytes : List Byte) (r : LoaderReport) : readReason bytes.isEmpty r =
    if bytes = [] ∧ r.outcome = .nackAddress ∧ r.second = false then .memoryAbsent else .bus := by
  unfold readReason
  refine if_congr ?_ rfl rfl
  rw [Bool.and_eq_true, Bool.and_eq_true, List.isEmpty_iff, decide_eq_true_eq, Bool.not_eq_true', and_assoc]

/-- Settles O52: the report, the walk record by record, the bodies by their tables, and LOADSTAT by its fields. -/
theorem loaderReadReportMovesTheLoad : Obligations.LoaderReadReportMovesTheLoad := by
  unfold Obligations.LoaderReadReportMovesTheLoad
  refine ⟨?report, fun l fuel hfuel => walk_fuel _ _ l (by omega) (by omega), fun l fuel => walk_succ fuel l,
    fun sh b => ⟨(checkBody_segment sh b).1, (checkBody_segment sh b).2.1, (checkBody_segment sh b).2.2,
      checkBody_target sh b, checkBody_poll sh b, checkBody_events sh b⟩, fun s hgood hoffset => ?loadstat⟩
  case report =>
    intro s r hrst hl hr l failed
    refine ⟨fun ho => ?_, fun ho => ⟨fun reason m hw => ?_, fun m hw => ?_, fun m hw => ?_⟩⟩
    · rw [exec, execLoaderReadReport, loaderReadReport_failed hl hr ho, happen_some hrst, readReason_eq]
      rfl
    · obtain ⟨-, hreport, -⟩ := (show Walked l (walk _ l).loader from walk_walked _ l).frame
      rw [hw] at hreport
      have hnone : m.report = none := hreport
      rw [exec, execLoaderReadReport, loaderReadReport_ok hl hr ho, happen_some hrst, show walk _ _ = _ from hw]
      show Host.Outcome.next (loadFail s reason m) = _
      rw [loadFail, hnone]
      rfl
    · rw [exec, execLoaderReadReport, loaderReadReport_ok hl hr ho, happen_some hrst, show walk _ _ = _ from hw]
      rfl
    · rw [exec, execLoaderReadReport, loaderReadReport_ok hl hr ho, happen_some hrst, show walk _ _ = _ from hw]
  case loadstat =>
    obtain ⟨hstate, hreason, hgap, hcount⟩ := fields_loadStat0 s.loader.state.code s.loader.reason.code
      (BitVec.ofNat 8 s.loader.good)
    refine ⟨?_, ?_, hgap, ?_, loadStat1_toNat hoffset⟩
    · exact (congrArg BitVec.toNat hstate).trans (LoadState.code_toNat _)
    · exact (congrArg BitVec.toNat hreason).trans (LoadReason.code_toNat _)
    · exact (congrArg BitVec.toNat hcount).trans (ofNat_toNat_of_lt (by omega))

end Sys2Proof.Machine
end

section
/-! SUPPORT. The commit of a good list, the resets, and the part while RSTn is low (11.4 to 11.6, 12.6). -/

namespace Sys2Proof.Machine

/-! ### The commit (O53) -/

section
variable (s : State) (l : Loader)

theorem commitSettings_tables : (commitSettings s l).polls = (commitTables s l).polls ∧
    (commitSettings s l).targets = (commitTables s l).targets ∧
    ∀ x, (commitSettings s l).seg x = (commitTables s l).seg x := by
  unfold commitSettings commitEvents
  cases l.shadow.events <;> exact ⟨rfl, rfl, fun | .a => rfl | .b => rfl⟩

theorem commitTables_poll_eq (i : Fin 24) : (commitTables s l).poll i =
    match l.shadow.polls.get i with
    | some (c, true) => { s.poll i with
        cfg := c, enabled := true, nextDue := s.tick + c.phase.setWidth 32, owed := .nothing, valid := false
        alarm := .normal, misses := 0, overruns := 0 }
    | some (c, false) => { s.poll i with cfg := c }
    | none => s.poll i := by
  have hfill : (commitTables s l).poll i = committedPoll l.shadow s.tick (s.poll i) i := vfill_get ..
  rw [hfill, committedPoll]
  rcases l.shadow.polls.get i with _ | ⟨c, _ | _⟩ <;> rfl

theorem commitTables_target_eq (i : Fin 32) : (commitTables s l).target i =
    match l.shadow.targets.get i with
    | some c => { cfg := c, state := .unknown, failures := 0, refs := enabledOn (commitTables s l).polls i, alerting := false
                  alertValue := 0, alertValid := false, lastSeen := 0 }
    | none => { s.target i with refs := enabledOn (commitTables s l).polls i } := by
  have hfill : (commitTables s l).target i = committedTarget l.shadow (commitTables s l).polls (s.target i) i := vfill_get ..
  rw [hfill, committedTarget]
  cases l.shadow.targets.get i <;> rfl

theorem commitTables_seg_eq (x : Seg) : (commitTables s l).seg x =
    match l.shadow.seg x with
    | some (c, true) => { s.seg x with cfg := c, state := .ready, streak := 0 }
    | some (c, false) => { s.seg x with cfg := c }
    | none => s.seg x := by
  have hcommit : (commitTables s l).seg x = (s.seg x).commit (l.shadow.seg x) := by cases x <;> rfl
  rw [hcommit]
  unfold Segment.commit
  rcases l.shadow.seg x with _ | ⟨c, _ | _⟩ <;> rfl

end

/-- Settles O53: the commit's tables, settings and loader, and what it leaves. -/
theorem commitStoresTheShadowTables : Obligations.CommitStoresTheShadowTables := by
  unfold Obligations.CommitStoresTheShadowTables
  intro s l _ _
  obtain ⟨hpolls, htargets, hsegs⟩ := commitSettings_tables s l
  refine ⟨commitSettings s l, commit_eq s l, fun i => ?poll, fun i => ?target, fun x => ?seg, ?settings, ?loader, ?rest⟩
  case poll =>
    have hpoll : (commitSettings s l).poll i = (commitTables s l).poll i := congrArg (fun v => Vector.get v i) hpolls
    exact hpoll.trans (commitTables_poll_eq s l i)
  case target =>
    have htarget : (commitSettings s l).target i = (commitTables s l).target i := congrArg (fun v => Vector.get v i) htargets
    rw [hpolls]
    exact htarget.trans (commitTables_target_eq s l i)
  case seg => exact (hsegs x).trans (commitTables_seg_eq s l x)
  case settings =>
    unfold commitSettings commitEvents
    cases l.shadow.events <;> rfl
  case loader =>
    unfold commitSettings commitEvents
    cases l.shadow.events <;> rfl
  case rest =>
    unfold commitSettings commitEvents
    cases l.shadow.events <;> rfl

/-! ### SOFT_RESET (O54) -/

/-- A reset of the polls' dynamic fields keeps which of them are enabled on an entry. -/
theorem pollRefs_softReset (polls : Vector Poll 24) (now : Tick) (i : Fin 32) :
    pollRefs (vmap (fun p => p.softReset now) polls) i = enabledOn polls i := by
  have hlist : (vmap (fun p => p.softReset now) polls).toList = polls.toList.map fun p => p.softReset now := rfl
  rw [pollRefs, hlist, List.countP_map]
  rfl

theorem withCmd_of_cmd {t : State} {w : Word} (h : t.cmd = w) : t = { t with cmd := w } := by
  subst h
  rfl

/-- Settles O54: what a SOFT_RESET clears of every block, and what it leaves. -/
theorem softResetClearsWorkAndKeepsConfiguration : Obligations.SoftResetClearsWorkAndKeepsConfiguration := by
  unfold Obligations.SoftResetClearsWorkAndKeepsConfiguration
  intro arg s hs
  refine ⟨clearWork { s with cmd := wordOf 0x30 arg }, ?answer, fun x => ?seg, fun i => ?target, fun i => vmap_get .., rfl⟩
  case answer =>
    exact congrArg Host.Outcome.next (command_eq_done hs arg.isLt firstFailing_nil (withCmd_of_cmd (softReset_cmd _)))
  case seg => cases x <;> rfl
  case target =>
    refine (vfill_get _ i).trans ?_
    rw [pollRefs_softReset]
    rfl

/-! ### RELOAD (O55) -/

/-- Settles O55: the part as the load begins. -/
theorem reloadClearsAndBeginsTheLoad : Obligations.ReloadClearsAndBeginsTheLoad := by
  unfold Obligations.ReloadClearsAndBeginsTheLoad
  exact fun arg s hs => congrArg Host.Outcome.next (command_eq_done hs arg.isLt firstFailing_nil rfl)

/-! ### Power-on reset and RSTn low (O56) -/

theorem exec_powerOnReset_noLoad (cfgadr fsel : BitVec 2) (s : State) : exec (.powerOnReset false cfgadr fsel) s =
    .next (partAtPowerOn false cfgadr fsel s.segA.alertLow s.segB.alertLow s.pending s.wires) := rfl

theorem exec_powerOnReset_load (cfgadr fsel : BitVec 2) (s : State) : exec (.powerOnReset true cfgadr fsel) s =
    .next { partAtPowerOn true cfgadr fsel s.segA.alertLow s.segB.alertLow s.pending s.wires with
      segA := { segmentAtPowerOn s.segA.alertLow with item := some (loaderRecord cfgadr 0 0) }
      loader := loaderBegun } := rfl

/-- An engine with no item and no recovery has both lines released. -/
theorem linesReleased_of_idle {s : State} {x : Seg} (hit : (s.seg x).item = none) (hr : (s.seg x).recovery = none) :
    linesReleased s x = true := by
  rw [linesReleased, hit, hr]
  exact Bool.or_true _

section
variable {s t : State}

theorem happen_low (h : s.rstnLow = true) (taken : Option State) : happen s taken = s := if_pos h

theorem takeBefore_low (h : s.rstnLow = true) (seen : List (Seg × Wire)) : takeBefore seen s = s := if_pos h

theorem eq_of_next {u : State} (h : (Host.Outcome.next u : Result) = .next t) (hu : u = s) : t = s := by
  cases h
  exact hu

/-- While RSTn is low nothing but a pin, RSTn itself and the power-on reset is taken. -/
theorem exec_low {c : Instr} (hlow : s.rstnLow = true) (h : exec c s = .next t) (hpin : ∀ x low, c ≠ .alertLineChange x low)
    (hrst : c ≠ .rstnLow) (hreset : ∀ cfgen cfgadr fsel, c ≠ .powerOnReset cfgen cfgadr fsel) : t = s := by
  cases c with
  | alertLineChange x low => exact absurd rfl (hpin x low)
  | rstnLow => exact absurd rfl hrst
  | powerOnReset cfgen cfgadr fsel => exact absurd rfl (hreset cfgen cfgadr fsel)
  | abort arg seen => exact eq_of_next h (by rw [takeBefore_low hlow, command_low hlow])
  | badCommand w =>
    rw [exec, execBadCommand] at h
    split at h
    · exact eq_of_next h (if_pos hlow)
    · cases h
  | registerWrite addr w =>
    rw [exec, execRegisterWrite] at h
    split at h
    · exact eq_of_next h (happen_low hlow _)
    · cases h
  | submit arg | pop arg | pause arg | resume arg | segEnable arg | segDisable arg | segWrite arg | segRead arg | recover arg
  | tgtWrite arg | tgtRead arg | tgtClear arg | tgtRelease arg | ackAlert arg | pollWrite arg | pollRead arg
  | pollEnable arg | pollDisable arg | softReset arg | reload arg => exact eq_of_next h (command_low hlow)
  | _ => exact eq_of_next h (happen_low hlow _)

end

/-- Settles O56: the part after power-on, with a load and without, and the part while RSTn is low. -/
theorem powerOnResetAndRstnLow : Obligations.PowerOnResetAndRstnLow := by
  unfold Obligations.PowerOnResetAndRstnLow
  refine fun s => ⟨fun cfgadr fsel => ⟨exec_powerOnReset_noLoad cfgadr fsel s, exec_powerOnReset_load cfgadr fsel s⟩,
    ⟨_, rfl, rfl, rfl, fun x => ⟨rfl, ?item, ?recovery⟩⟩, fun x => linesReleased_of_idle, fun c t hlow h => ?low⟩
  case item => cases x <;> rfl
  case recovery => cases x <;> rfl
  case low =>
    by_cases hpin : ∃ x low, c = .alertLineChange x low
    · obtain ⟨x, low, rfl⟩ := hpin
      refine .inr (.inl ⟨x, low, rfl, eq_of_next h ?_⟩)
      rw [alertLineChange]
      exact if_pos hlow
    by_cases hrst : c = .rstnLow
    · exact .inr (.inr (.inl hrst))
    by_cases hreset : ∃ cfgen cfgadr fsel, c = .powerOnReset cfgen cfgadr fsel
    · exact .inr (.inr (.inr hreset))
    exact .inl (exec_low hlow h (fun x low he => hpin ⟨x, low, he⟩) hrst fun cfgen cfgadr fsel he =>
      hreset ⟨cfgen, cfgadr, fsel, he⟩)

end Sys2Proof.Machine
end

section
/-! SUPPORT. The register window, the rows of host accesses, and the plain registers (8.7, 10.3, 12.1, 12.3). -/

namespace Sys2Proof.Machine

/-! ### The window (Table 12-1) -/

/-- The spare and unused addresses. -/
theorem window_unused (s : State) : ∀ addr : BitVec 6,
    addr ∈ ([0x06, 0x16, 0x17, 0x1D, 0x1E, 0x1F, 0x26, 0x27, 0x33, 0x3A, 0x3B, 0x3C, 0x3D, 0x3E, 0x3F] : List (BitVec 6)) →
      window s addr = 0x0000 := by
  intro addr h
  fin_cases h <;> rfl

/-- The addresses that are no staging register. -/
def plainAddrs : List (BitVec 6) :=
  [0x00, 0x01, 0x02, 0x03, 0x04, 0x05, 0x06, 0x07, 0x08, 0x09, 0x0A, 0x0B, 0x0C, 0x0D, 0x0E, 0x0F, 0x10, 0x16, 0x17, 0x18,
    0x19, 0x1A, 0x1B, 0x1C, 0x1D, 0x1E, 0x1F, 0x26, 0x27, 0x33, 0x34, 0x35, 0x36, 0x37, 0x38, 0x39, 0x3A, 0x3B, 0x3C, 0x3D,
    0x3E, 0x3F]

theorem mem_plainAddrs : ∀ addr : BitVec 6, fieldBits addr = 0 → addr ∈ plainAddrs := by decide

/-- A word of the window that is no staging register does not depend on them. -/
theorem window_withStaging {addr : BitVec 6} (h : fieldBits addr = 0) (s : State) (ds : Vector Word 5) (ts : Vector Word 6)
    (ps : Vector Word 8) (ss : Vector Word 3) : window { s with ds := ds, ts := ts, ps := ps, ss := ss } addr = window s addr := by
  have hmem := mem_plainAddrs addr h
  fin_cases hmem <;> rfl

/-- Two states that differ at most in staging registers show the same word at an address whose own register is the same. -/
theorem window_congr {s t : State} (h : { t with ds := s.ds, ts := s.ts, ps := s.ps, ss := s.ss } = s) {addr : BitVec 6}
    (hds : ∀ n : Fin 5, addr = 0x11#6 + BitVec.ofNat 6 n.val → t.ds.get n = s.ds.get n)
    (hts : ∀ n : Fin 6, addr = 0x20#6 + BitVec.ofNat 6 n.val → t.ts.get n = s.ts.get n)
    (hps : ∀ n : Fin 8, addr = 0x28#6 + BitVec.ofNat 6 n.val → t.ps.get n = s.ps.get n)
    (hss : ∀ n : Fin 3, addr = 0x30#6 + BitVec.ofNat 6 n.val → t.ss.get n = s.ss.get n) :
    window t addr = window s addr := by
  by_cases hf : fieldBits addr = 0
  · rw [← window_withStaging hf t s.ds s.ts s.ps s.ss, h]
  · rcases staging_addr addr hf with ⟨n, ha⟩ | ⟨n, ha⟩ | ⟨n, ha⟩ | ⟨n, ha⟩
    · rw [ha, window_ds, window_ds, hds n ha]
    · rw [ha, window_ts, window_ts, hts n ha]
    · rw [ha, window_ps, window_ps, hps n ha]
    · rw [ha, window_ss, window_ss, hss n ha]

/-- A store into one register of a table leaves those at other addresses. -/
theorem vset_get_of_addr {k : Nat} (v : Vector Word k) {base addr other : BitVec 6} {n : Fin k} (w : Word)
    (ha : addr = base + BitVec.ofNat 6 n.val) (hne : other ≠ addr) (m : Fin k) (hm : other = base + BitVec.ofNat 6 m.val) :
    (vset v n w).get m = v.get m :=
  vset_get_other v w fun e => hne (by rw [hm, ha, e])

/-! ### Writes of the staging registers (R194) -/

theorem writePlain_rest (s : State) (addr : BitVec 6) (w : Word) :
    { writePlain s addr w with ds := s.ds, ts := s.ts, ps := s.ps, ss := s.ss } = s := by
  rcases writePlain_cases s addr w with ⟨-, h⟩ | ⟨n, -, h⟩ | ⟨n, -, h⟩ | ⟨n, -, h⟩ | ⟨n, -, h⟩ <;> rw [h]

theorem window_writePlain_same {addr : BitVec 6} (hf : fieldBits addr ≠ 0) (s : State) (w : Word) :
    window (writePlain s addr w) addr = w &&& fieldBits addr := by
  rcases writePlain_cases s addr w with ⟨h0, -⟩ | ⟨n, ha, h⟩ | ⟨n, ha, h⟩ | ⟨n, ha, h⟩ | ⟨n, ha, h⟩
  · exact absurd h0 hf
  · rw [h, ha, window_ds, vset_get_same]
  · rw [h, ha, window_ts, vset_get_same]
  · rw [h, ha, window_ps, vset_get_same]
  · rw [h, ha, window_ss, vset_get_same]

theorem window_writePlain_other {addr other : BitVec 6} (hne : other ≠ addr) (s : State) (w : Word) :
    window (writePlain s addr w) other = window s other := by
  have hrest := writePlain_rest s addr w
  rcases writePlain_cases s addr w with ⟨-, h⟩ | ⟨n, ha, h⟩ | ⟨n, ha, h⟩ | ⟨n, ha, h⟩ | ⟨n, ha, h⟩ <;> rw [h] at hrest ⊢
  · exact window_congr hrest (vset_get_of_addr _ _ ha hne) (fun _ _ => rfl) (fun _ _ => rfl) (fun _ _ => rfl)
  · exact window_congr hrest (fun _ _ => rfl) (vset_get_of_addr _ _ ha hne) (fun _ _ => rfl) (fun _ _ => rfl)
  · exact window_congr hrest (fun _ _ => rfl) (fun _ _ => rfl) (vset_get_of_addr _ _ ha hne) (fun _ _ => rfl)
  · exact window_congr hrest (fun _ _ => rfl) (fun _ _ => rfl) (fun _ _ => rfl) (vset_get_of_addr _ _ ha hne)

theorem stagedBits_eq : ∀ addr : BitVec 6, stagedBits addr = fieldBits addr := by decide

theorem exec_registerWrite {addr : BitVec 6} {s : State} (hrst : s.rstnLow = false)
    (h : addr ∉ ([0x02, 0x09, 0x0A, 0x0B, 0x0C, 0x0D, 0x34, 0x35] : List (BitVec 6))) (w : Word) :
    exec (.registerWrite addr w) s = .next (writePlain s addr w) := by
  have hwf : (Instr.registerWrite addr w).wf = true := by
    rw [Instr.wf, Bool.not_eq_true', hasOwnWrite, Bool.eq_false_iff, Ne, List.contains_iff_mem]
    exact h
  rw [exec, execRegisterWrite, if_pos hwf, happen_some hrst]

/-! ### The rows of host accesses (R192) -/

theorem hostWrite_eq (addr : BitVec 6) (w : Word) : hostWrite addr w =
    if addr = 0x02 then commandOf w else if addr = 0x09 then .eventWrite w else if addr = 0x0A then .evMaskWrite w
    else if addr = 0x0B then .evCtrlWrite w else if addr = 0x0C then .alarmFlagsWrite false w
    else if addr = 0x0D then .alarmFlagsWrite true w else if addr = 0x34 then .pagePtrWrite w
    else if addr = 0x35 then .pageDataWrite w else .registerWrite addr w := by
  obtain ⟨⟨n, hn⟩⟩ := addr
  interval_cases n <;> rfl

theorem hostRead_eq (addr : BitVec 6) : hostRead addr =
    if addr = 0x07 then some .tickLoRead else if addr = 0x09 then some .eventRead
    else if addr = 0x35 then some .pageDataRead else none := by
  obtain ⟨⟨n, hn⟩⟩ := addr
  interval_cases n <;> rfl

/-! ### EVMASK, EVCTRL and the alarm flags (R157, R175, R176) -/

/-- The fields of EVCTRL, and its unused bits. -/
theorem fields_evCtrl (mode : Bool) (watermark : BitVec 6) :
    let w := BitVec.ofBool mode ++ 0#9 ++ watermark
    w.getLsbD 15 = mode ∧ w.extractLsb' 0 6 = watermark ∧ w &&& (0#1 ++ 511#9 ++ 0#6) = 0 := by
  intro w
  refine ⟨?_, BitVec.extractLsb'_append_eq_right, ?_⟩
  · simp (disch := decide) only [w, getLsbD_append_of_le, Nat.reduceSub, getLsbD_ofBool_zero]
  · simp only [w, BitVec.and_append, BitVec.and_zero, BitVec.zero_and]
    rfl

theorem ClearMode.bit_eq (m : ClearMode) : m.bit = decide (m = .readClears) := by cases m <;> rfl

theorem clearModeOfBit_eq (b : Bool) : clearModeOfBit b = if b = true then ClearMode.readClears else ClearMode.writeOne := by
  cases b <;> rfl

theorem alarmWord_getLsbD (s : State) (base k : Nat) : (alarmWord s base).getLsbD k =
    (decide (k < 16) && (decide (base + k < 24) && (s.poll (idx24 (base + k))).flag)) := bitsOf_getLsbD ..

theorem idx24_val (i : Fin 24) : idx24 i.val = i := Fin.ofNat_val_eq_self i

/-- The flag of entry `i` stands at bit `i` of ALARM_LO, or at bit `i - 16` of ALARM_HI. -/
theorem flag_eq_window (s : State) (i : Fin 24) : (s.poll i).flag =
    if i.val < 16 then (window s 0x0C).getLsbD i.val else (window s 0x0D).getLsbD (i.val - 16) := by
  have hlo : window s 0x0C = alarmWord s 0 := rfl
  have hhi : window s 0x0D = alarmWord s 16 := rfl
  have hi := i.isLt
  split
  · next hbit =>
    have hentry : idx24 (0 + i.val) = i := by rw [Nat.zero_add, idx24_val]
    rw [hlo, alarmWord_getLsbD, hentry, decide_eq_true hbit, decide_eq_true (by omega), Bool.true_and, Bool.true_and]
  · have hentry : idx24 (16 + (i.val - 16)) = i := by rw [Nat.add_sub_cancel' (by omega), idx24_val]
    rw [hhi, alarmWord_getLsbD, hentry, decide_eq_true (by omega), decide_eq_true (by omega), Bool.true_and, Bool.true_and]

/-- ALARM_HI shows no flag above that of entry 23. -/
theorem alarmHi_unused (s : State) : window s 0x0D &&& 0xFF00 = 0 := by
  have hhi : window s 0x0D = alarmWord s 16 := rfl
  have hhigh : ∀ k : Nat, k < 8 → (0xFF00 : Word).getLsbD k = false := by decide
  refine BitVec.eq_of_getLsbD_eq fun k hk => ?_
  rw [BitVec.getLsbD_and, hhi, alarmWord_getLsbD]
  by_cases h : k < 8
  · rw [hhigh k h, Bool.and_false]
    simp
  · have hover : ¬ 16 + k < 24 := by omega
    simp [hover]

theorem exec_evCtrlWrite {s : State} (hrst : s.rstnLow = false) (w : Word) :
    exec (.evCtrlWrite w) s = .next (
      if 1 ≤ (w.extractLsb' 0 6).toNat ∧ (w.extractLsb' 0 6).toNat ≤ 32 then
        { s with
          clearMode := if w.getLsbD 15 = true then ClearMode.readClears else ClearMode.writeOne
          watermark := w.extractLsb' 0 6 }
      else s) := by
  rw [exec, execEvCtrlWrite, happen_some hrst, clearModeOfBit_eq]
  refine congrArg Host.Outcome.next (if_congr ?_ rfl rfl)
  rw [Bool.and_eq_true, decide_eq_true_eq, decide_eq_true_eq]
  rfl

/-- The entry a write of the alarm flags leaves. -/
theorem clearAlarmFlags_get (s : State) (hi : Bool) (w : Word) (i : Fin 24) :
    (clearAlarmFlags s.polls (if hi then 16 else 0) w).get i = { s.poll i with
      flag := (s.poll i).flag && !(if hi = true then decide (16 ≤ i.val) && w.getLsbD (i.val - 16) else w.getLsbD i.val) } := by
  have hcleared : ∀ c : Bool, (if c = true then { s.poll i with flag := false } else s.poll i) =
      { s.poll i with flag := (s.poll i).flag && !c } := fun c => by
    cases c with
    | true => simp
    | false => simp
  rw [clearAlarmFlags, vfill_get]
  cases hi with
  | true => exact hcleared _
  | false =>
    refine (hcleared _).trans ?_
    simp

/-- Settles O60: the window word by word, the rows of the accesses, and each plain register's write. -/
theorem plainRegistersAreWritten : Obligations.PlainRegistersAreWritten := by
  unfold Obligations.PlainRegistersAreWritten
  refine ⟨fun s => ⟨⟨rfl, rfl, rfl, rfl, rfl, rfl, rfl⟩, window_ds s, window_ts s, window_ps s, window_ss s, window_unused s⟩,
    hostWrite_eq, hostRead_eq, fun s => ⟨rfl, ?mode, ?watermark, ?unused, alarmHi_unused s, flag_eq_window s⟩,
    fun w s hrst => ⟨?mask, fun h => ?evCtrl, fun h => ?ignored, fun hi => ?flags⟩,
    fun addr w s hrst h => ⟨_, exec_registerWrite hrst h w, writePlain_rest s addr w, fun h0 => ?none, fun h0 => ?stored,
      fun other hne => window_writePlain_other hne s w⟩⟩
  case mode => exact (fields_evCtrl s.clearMode.bit s.watermark).1.trans (ClearMode.bit_eq _)
  case watermark => exact (fields_evCtrl s.clearMode.bit s.watermark).2.1
  case unused => exact (fields_evCtrl s.clearMode.bit s.watermark).2.2
  case mask => exact congrArg Host.Outcome.next (happen_some hrst _)
  case evCtrl => rw [exec_evCtrlWrite hrst, if_pos h]
  case ignored => rw [exec_evCtrlWrite hrst, if_neg h]
  case flags =>
    exact ⟨{ s with polls := clearAlarmFlags s.polls (if hi then 16 else 0) w },
      congrArg Host.Outcome.next (happen_some hrst _), rfl, clearAlarmFlags_get s hi w⟩
  case none => exact writePlain_of_no_field ((stagedBits_eq addr).symm.trans h0) s w
  case stored =>
    rw [stagedBits_eq] at h0 ⊢
    exact window_writePlain_same h0 s w

end Sys2Proof.Machine
end
